-- ==== Sys2Proof/Word.lean ====
section
/-! DEFINITION. The words the core moves: `Word32` and `Byte` of 00_scope.md R12, and the 4-bit counts of R62.
All arithmetic on them is that of `BitVec`: addition modulo 2^32 (R13, R75) and bitwise exclusive or (R13, R76). -/

namespace Sys2Proof

/-- `Word32`: an unsigned integer in 0 .. 2^32 - 1 (R12). CMD and RSP move whole words (R41). -/
abbrev Word := BitVec 32

/-- `Byte`: an unsigned integer in 0 .. 255 (R12). DIN and DOUT move whole bytes (R41). -/
abbrev Byte := BitVec 8

/-- The 4-bit counts `KLEN` and `NLEN` of a command word (R55, R62). -/
abbrev Nibble := BitVec 4

end Sys2Proof
end

