-- ==== Sys2Proof/Syntax.lean ====
section
/-! DEFINITION. The commands of the core (30_encoding.md R56), each with the operands that arrive with it on CMD
(R58 to R60). The message bytes of XFORM arrive on DIN and are read by its meaning. -/

namespace Sys2Proof

/-- One constructor per row of spec/opcode_table.json. -/
inductive Instr where
  /-- INIT (R74) with its key words, counter word and nonce words in the order of R58. The two counts `KLEN` and `NLEN`
  are the lengths of the lists: INIT.RAW of R66 gives any counts from 0 to 15. -/
  | init (key : List Word) (ctr : Word) (nonce : List Word)
  /-- XFORM (R93) with its length word `LEN` (R59). -/
  | xform (len : Word)
  /-- BLOCK (R92): no operand (R60). -/
  | block
  /-- BLOCK2 (R113): no operand (R60). -/
  | block2
  /-- RDCTR (R115): no operand (R60). -/
  | rdctr
  /-- WIPE (R116): no operand (R60). -/
  | wipe
  deriving DecidableEq, Repr

end Sys2Proof
end

