-- ==== Sys2Proof/WellFormed.lean ====
section
/-! DEFINITION. Which terms of `Instr` a command stream can hold: `KLEN` and `NLEN` are 4-bit counts (R55, R62), so an INIT
carries at most 15 key words and at most 15 nonce words. Counts other than 8 and 3 are well formed: such an INIT runs
and reports `INVALID_LENGTH` (R74, R121). -/

namespace Sys2Proof

/-- The number of key words fits `KLEN[11:8]` (R55). -/
def Instr.keyCountFits : Instr → Bool
  | .init key _ _ => decide (key.length ≤ 15)
  | .xform _ => true
  | .block => true
  | .block2 => true
  | .rdctr => true
  | .wipe => true

/-- The number of nonce words fits `NLEN[15:12]` (R55). -/
def Instr.nonceCountFits : Instr → Bool
  | .init _ _ nonce => decide (nonce.length ≤ 15)
  | .xform _ => true
  | .block => true
  | .block2 => true
  | .rdctr => true
  | .wipe => true

/-- A term of `Instr` that some command stream encodes. -/
abbrev Instr.WellFormed (i : Instr) : Prop :=
  i.keyCountFits = true ∧ i.nonceCountFits = true

end Sys2Proof
end

