-- ==== Sys2Proof/Decode.lean ====
section
/-! DEFINITION. The decoder of 30_encoding.md, total on any stream of CMD words, the encoder written from the same tables,
and the reading of the opcode table's own bit numbering. -/

namespace Sys2Proof

/-! ### Fields of the command word (R55) -/

/-- `OPC[7:0]`. -/
def opcField (w : Word) : BitVec 8 := w.extractLsb' 0 8

/-- `KLEN[11:8]`. -/
def klenField (w : Word) : Nibble := w.extractLsb' 8 4

/-- `NLEN[15:12]`. -/
def nlenField (w : Word) : Nibble := w.extractLsb' 12 4

/-- `RSVD[31:16]`. -/
def rsvdField (w : Word) : BitVec 16 := w.extractLsb' 16 16

/-- The command word `{RSVD = 0, NLEN, KLEN, OPC}` (R55, R66). -/
def commandWord (opc : BitVec 8) (klen nlen : Nibble) : Word :=
  ((0#16 ++ nlen) ++ klen) ++ opc

/-! ### Selecting the command (R56, R57) -/

/-- The six operations of R56. -/
inductive Op where
  | init
  | xform
  | block
  | block2
  | rdctr
  | wipe
  deriving DecidableEq, Repr

/-- One row of the opcode table: a word selects the row when its bits under the mask are the pattern. -/
structure OpRow where
  op : Op
  mask : Word
  pattern : Word
  deriving DecidableEq, Repr

/-- The rows of R56 with the masks of R57. -/
def opTable : List OpRow :=
  [ ⟨.init,   0xFFFF00FF#32, 0x00000001#32⟩,
    ⟨.xform,  0xFFFFFFFF#32, 0x00000002#32⟩,
    ⟨.block,  0xFFFFFFFF#32, 0x00000003#32⟩,
    ⟨.block2, 0xFFFFFFFF#32, 0x00000004#32⟩,
    ⟨.rdctr,  0xFFFFFFFF#32, 0x00000005#32⟩,
    ⟨.wipe,   0xFFFFFFFF#32, 0x00000006#32⟩ ]

/-- The word selects the row (R57). -/
def OpRow.selects (r : OpRow) (w : Word) : Bool := w &&& r.mask == r.pattern

/-- The operation a command word selects, if it selects any. -/
def selectOp (w : Word) : Option Op := (opTable.find? (·.selects w)).map (·.op)

/-! ### Illegal words (R63) -/

/-- Why a command word is illegal. The three clauses of R63. The core reports only `ILLEGAL_CMD` (R120): these names are
the decoder's own and no state depends on them (log 13). -/
inductive IllegalReason where
  /-- `OPC` is 0x00 or in 0x07 .. 0xFF. -/
  | unknownOpcode
  /-- `RSVD ≠ 0`. -/
  | reservedBitsSet
  /-- `OPC` is not 0x01 and `KLEN ≠ 0` or `NLEN ≠ 0`. -/
  | lengthFieldSet
  deriving DecidableEq, Repr

/-- The first clause of R63 that holds of a word which selects no operation. -/
def illegalReason (w : Word) : IllegalReason :=
  if opcField w = 0 ∨ 7 ≤ (opcField w).toNat then .unknownOpcode
  else if rsvdField w ≠ 0 then .reservedBitsSet
  else .lengthFieldSet

/-! ### The decoder -/

/-- What stands at the front of the CMD stream. -/
inductive Decoded where
  /-- A whole command, with the words after it. -/
  | command (i : Instr) (rest : List Word)
  /-- An illegal command word, consumed alone (R63), with the words after it. -/
  | illegal (why : IllegalReason) (rest : List Word)
  /-- No word at all, or a command word whose operand words have not all arrived: the core waits (R16, R139). -/
  | incomplete
  deriving DecidableEq, Repr

/-- INIT's operands in the order of R58: `klen` key words, the counter word, `nlen` nonce words. -/
def decodeInit (klen nlen : Nat) (ws : List Word) : Decoded :=
  if ws.length < klen + 1 + nlen then .incomplete
  else
    match ws.drop klen with
    | [] => .incomplete
    | c :: rest => .command (.init (ws.take klen) c (rest.take nlen)) (rest.drop nlen)

/-- XFORM's one operand word (R59). -/
def decodeXform : List Word → Decoded
  | [] => .incomplete
  | len :: rest => .command (.xform len) rest

/-- The command at the front of the CMD stream (R55 to R63). -/
def decode : List Word → Decoded
  | [] => .incomplete
  | w :: ws =>
    match selectOp w with
    | none => .illegal (illegalReason w) ws
    | some .init => decodeInit (klenField w).toNat (nlenField w).toNat ws
    | some .xform => decodeXform ws
    | some .block => .command .block ws
    | some .block2 => .command .block2 ws
    | some .rdctr => .command .rdctr ws
    | some .wipe => .command .wipe ws

/-- How many CMD words the command that starts with `w` takes (R61). -/
def commandLength (w : Word) : Nat :=
  match selectOp w with
  | some .init => 2 + (klenField w).toNat + (nlenField w).toNat
  | some .xform => 2
  | some .block => 1
  | some .block2 => 1
  | some .rdctr => 1
  | some .wipe => 1
  | none => 1

/-! ### The encoder -/

/-- The CMD words of a well-formed command (R56, R58 to R60). -/
def encode : Instr → List Word
  | .init key c nonce =>
    commandWord 0x01 (BitVec.ofNat 4 key.length) (BitVec.ofNat 4 nonce.length) :: (key ++ c :: nonce)
  | .xform len => [0x00000002#32, len]
  | .block => [0x00000003#32]
  | .block2 => [0x00000004#32]
  | .rdctr => [0x00000005#32]
  | .wipe => [0x00000006#32]

/-! ### The opcode table's bit numbering -/

/-- The longest command, INIT with `KLEN = NLEN = 15`, takes 32 CMD words (R61, R74). -/
def longestCommand : Nat := 32

/-- The CMD words of an instruction whose bits are `w`, numbered as spec/opcode_table.json numbers them: bit 0 is the least
significant bit of the first word, word `k` is bits `32k+31 .. 32k`, and every bit from `nbits` up is 0 (log 22). -/
def tableWords (nbits w : Nat) : List Word :=
  (List.range longestCommand).map fun k => BitVec.ofNat 32 ((w % 2 ^ nbits) >>> (32 * k))

/-- The words of `tableWords` that belong to the one command they start with (R61). -/
def tableCommand (nbits w : Nat) : List Word :=
  (tableWords nbits w).take (commandLength (BitVec.ofNat 32 (w % 2 ^ nbits)))

/-- How many DIN bytes the command takes (R61). -/
def Instr.messageLength : Instr → Nat
  | .init _ _ _ => 0
  | .xform len => len.toNat
  | .block => 0
  | .block2 => 0
  | .rdctr => 0
  | .wipe => 0

/-- The instruction the decoder reads from the table's bits; none where it refuses. -/
def decodeTableWord (nbits w : Nat) : Option Instr :=
  match decode (tableWords nbits w) with
  | .command i _ => some i
  | .illegal _ _ => none
  | .incomplete => none

/-- How many DIN bytes the instruction with the table's bits takes. -/
def tableMessageLength (nbits w : Nat) : Nat :=
  match decodeTableWord nbits w with
  | some i => i.messageLength
  | none => 0

end Sys2Proof
end

