-- ==== Sys2Proof/Config.lean ====
section
/-! DEFINITION. What one build of the core fixes, and the values the spec leaves free. Every constant here is opaque:
no proof can see which value it has. -/

namespace Sys2Proof

/-- The two datapath strategies of R3. `Inhabited` is there only so that `Config.engine` may be left opaque. -/
inductive Engine where
  /-- `ENGINE = SCALAR`: one 16-word matrix at a time (R3). -/
  | scalar
  /-- `ENGINE = DUAL`: two consecutive blocks per invocation (R3). -/
  | dual
  deriving DecidableEq, Repr, Inhabited

/-- The byte orders a platform may choose for a port word on a narrow bus (R41). -/
inductive ByteOrder where
  | littleEndian
  | bigEndian
  deriving DecidableEq, Repr, Inhabited

/-- `ENGINE` (R9): fixed when the core is built. Only `State.reset` reads it; the machine reads the engine off its own
state, where nothing writes it. DESIGN CHOICE, safe: log 6. -/
opaque Config.engine : Engine

/-- Free values: the words that `X`, `KS` and `V0 .. V3` hold between commands, of which 93_implementation_defined.md I14
says `any value`. DESIGN CHOICE, safe: log 4. -/
opaque Config.freeWord : Nat → Word

/-- `CORE_BASE` (R11, R44): OPEN, a platform parameter that no rule and no definition of the model reads. Log 16. -/
opaque Config.coreBase : Nat

/-- `PORT_WORD_BYTE_ORDER` (R11, R41): OPEN, a platform parameter that no rule and no definition of the model reads.
Log 16. -/
opaque Config.portWordByteOrder : ByteOrder

end Sys2Proof
end

