-- ==== Sys2Proof/Machine/State.lean ====
section
/-! DEFINITION. The state of the core (10_state.md R20 to R34, 20_memory.md R35), as plain data, and its value after
reset (R34, R136). The core has no addressable memory (R35): its data spaces are the four port queues. -/

namespace Sys2Proof.Machine

/-- `KEY[0..7]` (R20): the key words as INIT supplied them. -/
structure Key where
  k0 : Word
  k1 : Word
  k2 : Word
  k3 : Word
  k4 : Word
  k5 : Word
  k6 : Word
  k7 : Word
  deriving DecidableEq, Repr

/-- `NONCE[0..2]` (R21): the nonce words as INIT supplied them. -/
structure Nonce where
  n0 : Word
  n1 : Word
  n2 : Word
  deriving DecidableEq, Repr

/-- A 16-word matrix, row `r` being words `4r .. 4r+3` (R25): the shape of `S`, `X` and `KS`. -/
structure WordMatrix where
  w0 : Word
  w1 : Word
  w2 : Word
  w3 : Word
  w4 : Word
  w5 : Word
  w6 : Word
  w7 : Word
  w8 : Word
  w9 : Word
  w10 : Word
  w11 : Word
  w12 : Word
  w13 : Word
  w14 : Word
  w15 : Word
  deriving DecidableEq, Repr

/-- One vector register: `LANES = 8` lanes of one word (R10, R28). -/
structure Lanes where
  l0 : Word
  l1 : Word
  l2 : Word
  l3 : Word
  l4 : Word
  l5 : Word
  l6 : Word
  l7 : Word
  deriving DecidableEq, Repr

/-- The vector registers `V0 .. V3` (R28). -/
structure VRegs where
  v0 : Lanes
  v1 : Lanes
  v2 : Lanes
  v3 : Lanes
  deriving DecidableEq, Repr

/-- The datapath the core was built with (R3, R9): the vector registers exist only when `ENGINE = DUAL` (R28). -/
inductive Datapath where
  | scalar
  | dual (v : VRegs)
  deriving DecidableEq, Repr

/-- How far an XFORM has come that waits for more of its message (R139): its length word `LEN`, and how many of its message
bytes it has read. -/
structure XformProgress where
  len : Word
  done : Nat
  deriving DecidableEq, Repr

/-- Everything the spec gives the core (10_state.md, 20_memory.md R35), and one field of the model's own. -/
structure State where
  /-- CMD: words from the host, the next one first (R35). -/
  cmd : List Word
  /-- DIN: message bytes from the host, the next one first (R35). -/
  din : List Byte
  /-- DOUT: bytes to the host, the oldest first (R35). -/
  dout : List Byte
  /-- RSP: status words and counter values to the host, the oldest first (R35). -/
  rsp : List Word
  /-- `KEY` (R20). -/
  key : Key
  /-- `NONCE` (R21). -/
  nonce : Nonce
  /-- `CTR` (R22). -/
  ctr : Word
  /-- `CONF` (R24). -/
  conf : Bool
  /-- `S` (R25). -/
  matS : WordMatrix
  /-- `X` (R27). -/
  matX : WordMatrix
  /-- `KS` (R27). -/
  matKS : WordMatrix
  /-- `ENGINE`, with `V0 .. V3` when it is `DUAL` (R9, R28). -/
  datapath : Datapath
  /-- The XFORM the core is stuck in until the rest of its DIN bytes arrives (R139); DEDUCED, log 3. -/
  pendingXform : Option XformProgress
  /-- The model's own field: how many free values have been taken (log 5). -/
  freeIx : Nat
  deriving DecidableEq, Repr

/-- `ENGINE` of this core, the source of the status bit `DUAL` (R9, R31). -/
def State.engine (s : State) : Engine :=
  match s.datapath with
  | .scalar => .scalar
  | .dual _ => .dual

/-- Why the machine could stop with a fault: never. The core has no trap and no access fault (R45, R127), its errors are
status words of a next state (R17, R119) and missing operands make it wait (R139). No constructor, so no meaning raises
one (log 11; safe: nothing stops where the hardware goes on). -/
inductive Fault where
  deriving DecidableEq, Repr

/-- Why the model could refuse an instruction. -/
inductive Refusal where
  /-- Raised only by an arm of `exec` whose instruction has no meaning yet (safe); no arm is such an arm. -/
  | notModelled (mnemonic : String)
  deriving DecidableEq, Repr

/-- Every word 0 (R34, R116). -/
def Key.zero : Key := ⟨0, 0, 0, 0, 0, 0, 0, 0⟩

/-- Every word 0 (R34, R116). -/
def Nonce.zero : Nonce := ⟨0, 0, 0⟩

/-- Every word 0 (R34, R116). -/
def WordMatrix.zero : WordMatrix := ⟨0, 0, 0, 0, 0, 0, 0, 0, 0, 0, 0, 0, 0, 0, 0, 0⟩

/-- Every word 0 (R34, R116). -/
def Lanes.zero : Lanes := ⟨0, 0, 0, 0, 0, 0, 0, 0⟩

/-- Every lane of every vector register 0 (R28, R34). -/
def VRegs.zero : VRegs := ⟨.zero, .zero, .zero, .zero⟩

/-- The datapath of a core built with `e`, its vector registers 0 where it has them (R28, R34). -/
def Datapath.zeroOf (e : Engine) : Datapath :=
  match e with
  | .scalar => .scalar
  | .dual => .dual .zero

/-- The state after reset of a core built with `e`: every row of R34's table. The two last fields are the model's: no
command is in progress (R137, log 3), and the free-value index, a DESIGN CHOICE (log 5). -/
def State.resetFor (e : Engine) : State where
  cmd := []
  din := []
  dout := []
  rsp := []
  key := .zero
  nonce := .zero
  ctr := 0
  conf := false
  matS := .zero
  matX := .zero
  matKS := .zero
  datapath := .zeroOf e
  pendingXform := none
  freeIx := 0

/-- The machine right after reset (R34, R136), with the `ENGINE` the core was built with (R9, log 6). -/
def State.reset : State := State.resetFor Config.engine

end Sys2Proof.Machine
end

