-- ==== Sys2Proof/Machine/Permutation.lean ====
section
/-! DEFINITION. Word arithmetic, quarter round, double round and the permutation (41_permutation.md). Addition and
exclusive or are those of `BitVec` (R75, R76). -/

namespace Sys2Proof.Machine

/-- `rotl(x, s)` (R77), for `0 < s < 32`; the core uses 16, 12, 8 and 7 only (log 20). -/
def rotl (x : Word) (s : Nat) : Word := (x <<< s) ||| (x >>> (32 - s))

/-- `QR(a, b, c, d)` (R79): every step reads what the step before it wrote. -/
def quarterRound (a b c d : Word) : Word × Word × Word × Word :=
  let a := a + b
  let d := rotl (d ^^^ a) 16
  let c := c + d
  let b := rotl (b ^^^ c) 12
  let a := a + b
  let d := rotl (d ^^^ a) 8
  let c := c + d
  let b := rotl (b ^^^ c) 7
  (a, b, c, d)

/-- `X[i]` for `i < 16`. -/
def WordMatrix.get (m : WordMatrix) (i : Nat) : Word :=
  match i with
  | 0 => m.w0
  | 1 => m.w1
  | 2 => m.w2
  | 3 => m.w3
  | 4 => m.w4
  | 5 => m.w5
  | 6 => m.w6
  | 7 => m.w7
  | 8 => m.w8
  | 9 => m.w9
  | 10 => m.w10
  | 11 => m.w11
  | 12 => m.w12
  | 13 => m.w13
  | 14 => m.w14
  | _ => m.w15

/-- `X[i] <- v` for `i < 16`. -/
def WordMatrix.set (m : WordMatrix) (i : Nat) (v : Word) : WordMatrix :=
  match i with
  | 0 => { m with w0 := v }
  | 1 => { m with w1 := v }
  | 2 => { m with w2 := v }
  | 3 => { m with w3 := v }
  | 4 => { m with w4 := v }
  | 5 => { m with w5 := v }
  | 6 => { m with w6 := v }
  | 7 => { m with w7 := v }
  | 8 => { m with w8 := v }
  | 9 => { m with w9 := v }
  | 10 => { m with w10 := v }
  | 11 => { m with w11 := v }
  | 12 => { m with w12 := v }
  | 13 => { m with w13 := v }
  | 14 => { m with w14 := v }
  | _ => { m with w15 := v }

/-- The words of a matrix in index order. -/
def WordMatrix.toList (m : WordMatrix) : List Word :=
  [m.w0, m.w1, m.w2, m.w3, m.w4, m.w5, m.w6, m.w7, m.w8, m.w9, m.w10, m.w11, m.w12, m.w13, m.w14, m.w15]

/-- `QR_S(X; i, j, k, l)` (R80): all four words are read before any is written. -/
def WordMatrix.quarterRoundAt (m : WordMatrix) (i j k l : Nat) : WordMatrix :=
  let q := quarterRound (m.get i) (m.get j) (m.get k) (m.get l)
  (((m.set i q.1).set j q.2.1).set k q.2.2.1).set l q.2.2.2

/-- The column pass of R82. -/
def columnPass (m : WordMatrix) : WordMatrix :=
  (((m.quarterRoundAt 0 4 8 12).quarterRoundAt 1 5 9 13).quarterRoundAt 2 6 10 14).quarterRoundAt 3 7 11 15

/-- The diagonal pass of R82. -/
def diagonalPass (m : WordMatrix) : WordMatrix :=
  (((m.quarterRoundAt 0 5 10 15).quarterRoundAt 1 6 11 12).quarterRoundAt 2 7 8 13).quarterRoundAt 3 4 9 14

/-- `DoubleRound(X)` (R82): columns before diagonals. -/
def doubleRound (m : WordMatrix) : WordMatrix := diagonalPass (columnPass m)

/-- `n` double rounds in succession. -/
def doubleRounds : Nat → WordMatrix → WordMatrix
  | 0, m => m
  | n + 1, m => doubleRounds n (doubleRound m)

/-- `DOUBLE_ROUNDS` (R8, R85). -/
def doubleRoundCount : Nat := 10

/-- `Permute(X)` (R85). -/
def permute (m : WordMatrix) : WordMatrix := doubleRounds doubleRoundCount m

end Sys2Proof.Machine
end

