-- ==== Sys2Proof/Machine/Block.lean ====
section
/-! DEFINITION. The endianness converter and the state initializer (40_state_init.md), the block function and the
serialization of its result (42_block.md). -/

namespace Sys2Proof.Machine

/-- `bswap32(x) = {x[7:0], x[15:8], x[23:16], x[31:24]}` (R68). -/
def bswap32 (x : Word) : Word :=
  ((x.extractLsb' 0 8 ++ x.extractLsb' 8 8) ++ x.extractLsb' 16 8) ++ x.extractLsb' 24 8

/-- `InitState(K, c, N)` (R72), with `SIGMA` (R71) in row 0 and the counter unconverted in word 12 (R38). -/
def initState (k : Key) (c : Word) (n : Nonce) : WordMatrix :=
  ⟨0x61707865#32, 0x3320646e#32, 0x79622d32#32, 0x6b206574#32,
   bswap32 k.k0, bswap32 k.k1, bswap32 k.k2, bswap32 k.k3,
   bswap32 k.k4, bswap32 k.k5, bswap32 k.k6, bswap32 k.k7,
   c, bswap32 n.n0, bswap32 n.n1, bswap32 n.n2⟩

/-- The feed-forward: word by word, modulo 2^32 (R87). -/
def WordMatrix.add (a b : WordMatrix) : WordMatrix :=
  ⟨a.w0 + b.w0, a.w1 + b.w1, a.w2 + b.w2, a.w3 + b.w3, a.w4 + b.w4, a.w5 + b.w5, a.w6 + b.w6, a.w7 + b.w7, a.w8 + b.w8, a.w9 + b.w9, a.w10 + b.w10, a.w11 + b.w11, a.w12 + b.w12, a.w13 + b.w13, a.w14 + b.w14, a.w15 + b.w15⟩

/-- `Block(S)` (R86). -/
def blockFn (m : WordMatrix) : WordMatrix := (permute m).add m

/-- The four bytes of a keystream word, least significant first (R39, R90). -/
def wordBytes (w : Word) : List Byte :=
  [w.extractLsb' 0 8, w.extractLsb' 8 8, w.extractLsb' 16 8, w.extractLsb' 24 8]

/-- `Ser(KS)` (R90): 64 bytes, word 0 first. -/
def serialize (m : WordMatrix) : List Byte := m.toList.flatMap wordBytes

/-- `KSBlock(K, c, N)` (R88). -/
def keystreamBlock (k : Key) (c : Word) (n : Nonce) : WordMatrix := blockFn (initState k c n)

/-- `KSBytes(K, c, N)` (R91). -/
def keystreamBytes (k : Key) (c : Word) (n : Nonce) : List Byte := serialize (keystreamBlock k c n)

end Sys2Proof.Machine
end

