-- ==== Sys2Proof/Machine/DualLane.lean ====
section
/-! DEFINITION. The dual-lane datapath (44_dual_lane.md). Its one normative property is that it computes what the scalar
block function computes (R104); the lane layout is that of R106 to R111, one conforming choice on which no claim may rest
(92_eei_decisions.md D17, log 9). -/

namespace Sys2Proof.Machine

/-- Lane `i` of a vector register, for `i < 8`. -/
def Lanes.get (a : Lanes) (i : Nat) : Word :=
  match i with
  | 0 => a.l0
  | 1 => a.l1
  | 2 => a.l2
  | 3 => a.l3
  | 4 => a.l4
  | 5 => a.l5
  | 6 => a.l6
  | _ => a.l7

/-- `A +v B` (R108). -/
def Lanes.add (a b : Lanes) : Lanes :=
  ⟨a.l0 + b.l0, a.l1 + b.l1, a.l2 + b.l2, a.l3 + b.l3, a.l4 + b.l4, a.l5 + b.l5, a.l6 + b.l6, a.l7 + b.l7⟩

/-- `A ^v B` (R108). -/
def Lanes.xor (a b : Lanes) : Lanes :=
  ⟨a.l0 ^^^ b.l0, a.l1 ^^^ b.l1, a.l2 ^^^ b.l2, a.l3 ^^^ b.l3, a.l4 ^^^ b.l4, a.l5 ^^^ b.l5, a.l6 ^^^ b.l6, a.l7 ^^^ b.l7⟩

/-- `rotlv(A, s)` (R108). -/
def Lanes.rotl (a : Lanes) (s : Nat) : Lanes :=
  ⟨Machine.rotl a.l0 s, Machine.rotl a.l1 s, Machine.rotl a.l2 s, Machine.rotl a.l3 s, Machine.rotl a.l4 s, Machine.rotl a.l5 s, Machine.rotl a.l6 s, Machine.rotl a.l7 s⟩

/-- The lane permutation `P_r` (R109): `P_r(A)[4b + col] = A[4b + ((col + r) mod 4)]`. -/
def Lanes.rotateGroups (a : Lanes) (r : Nat) : Lanes :=
  ⟨a.get (0 + (0 + r) % 4), a.get (0 + (1 + r) % 4), a.get (0 + (2 + r) % 4), a.get (0 + (3 + r) % 4), a.get (4 + (0 + r) % 4), a.get (4 + (1 + r) % 4), a.get (4 + (2 + r) % 4), a.get (4 + (3 + r) % 4)⟩

/-- `VQR` (R108): R79 with every operation replaced by its lane-wise form. -/
def vectorQuarterRound (v : VRegs) : VRegs :=
  let a := v.v0.add v.v1
  let d := (v.v3.xor a).rotl 16
  let c := v.v2.add d
  let b := (v.v1.xor c).rotl 12
  let a := a.add b
  let d := (d.xor a).rotl 8
  let c := c.add d
  let b := (b.xor c).rotl 7
  ⟨a, b, c, d⟩

/-- Diagonals into columns: `P_1`, `P_2`, `P_3` on `V1`, `V2`, `V3` (R109, R110). -/
def diagonalsToColumns (v : VRegs) : VRegs :=
  ⟨v.v0, v.v1.rotateGroups 1, v.v2.rotateGroups 2, v.v3.rotateGroups 3⟩

/-- Back again: `P_r⁻¹ = P_(4-r)` (R109, R110). -/
def restoreLanes (v : VRegs) : VRegs :=
  ⟨v.v0, v.v1.rotateGroups 3, v.v2.rotateGroups 2, v.v3.rotateGroups 1⟩

/-- `VDoubleRound` (R110). -/
def vectorDoubleRound (v : VRegs) : VRegs :=
  restoreLanes (vectorQuarterRound (diagonalsToColumns (vectorQuarterRound v)))

/-- `n` vector double rounds in succession (R111). -/
def vectorDoubleRounds : Nat → VRegs → VRegs
  | 0, v => v
  | n + 1, v => vectorDoubleRounds n (vectorDoubleRound v)

/-- Loading two matrices (R106, R107): lane `4b + col` of `Vr` is word `4r + col` of block `b`. -/
def loadLanes (s0 s1 : WordMatrix) : VRegs :=
  ⟨⟨s0.w0, s0.w1, s0.w2, s0.w3, s1.w0, s1.w1, s1.w2, s1.w3⟩,
   ⟨s0.w4, s0.w5, s0.w6, s0.w7, s1.w4, s1.w5, s1.w6, s1.w7⟩,
   ⟨s0.w8, s0.w9, s0.w10, s0.w11, s1.w8, s1.w9, s1.w10, s1.w11⟩,
   ⟨s0.w12, s0.w13, s0.w14, s0.w15, s1.w12, s1.w13, s1.w14, s1.w15⟩⟩

/-- The feed-forward, lane by lane (R111). -/
def VRegs.add (v u : VRegs) : VRegs :=
  ⟨v.v0.add u.v0, v.v1.add u.v1, v.v2.add u.v2, v.v3.add u.v3⟩

/-- Block 0 of the vector registers (R111): `KS0[4r + col] = Vr[col]`. -/
def VRegs.block0 (v : VRegs) : WordMatrix :=
  ⟨v.v0.l0, v.v0.l1, v.v0.l2, v.v0.l3, v.v1.l0, v.v1.l1, v.v1.l2, v.v1.l3, v.v2.l0, v.v2.l1, v.v2.l2, v.v2.l3, v.v3.l0, v.v3.l1, v.v3.l2, v.v3.l3⟩

/-- Block 1 of the vector registers (R111): `KS1[4r + col] = Vr[4 + col]`. -/
def VRegs.block1 (v : VRegs) : WordMatrix :=
  ⟨v.v0.l4, v.v0.l5, v.v0.l6, v.v0.l7, v.v1.l4, v.v1.l5, v.v1.l6, v.v1.l7, v.v2.l4, v.v2.l5, v.v2.l6, v.v2.l7, v.v3.l4, v.v3.l5, v.v3.l6, v.v3.l7⟩

/-- `V0 .. V3` at the end of one `Block2` pass (R111): `U0 .. U3` are the loaded registers. -/
def dualPass (k : Key) (c : Word) (n : Nonce) : VRegs :=
  let u := loadLanes (initState k c n) (initState k (c + 1) n)
  (vectorDoubleRounds doubleRoundCount u).add u

/-- `Block2(K, c, N)` (R111). -/
def dualBlocks (k : Key) (c : Word) (n : Nonce) : WordMatrix × WordMatrix :=
  ((dualPass k c n).block0, (dualPass k c n).block1)

/-- The 128 output bytes of `Block2` (R111): block 0 before block 1. -/
def dualBytes (k : Key) (c : Word) (n : Nonce) : List Byte :=
  serialize (dualBlocks k c n).1 ++ serialize (dualBlocks k c n).2

end Sys2Proof.Machine
end

