-- ==== Sys2Proof/Machine/Flags.lean ====
section
/-! DEFINITION. The status word (10_state.md R31) and the error codes (60_exceptions.md R119). The core has no condition
code, carry or overflow flag (R32): `CONF` is its only status bit and `ERR` is a field of one response word. -/

namespace Sys2Proof.Machine

/-- What `ERR` can say (R119). Codes 4 to 15 are never written, so they have no constructor. -/
inductive ErrCode where
  /-- Every command that succeeds. -/
  | ok
  /-- The command word is illegal (R63, R120). -/
  | illegalCmd
  /-- INIT with `KLEN ≠ 8` or `NLEN ≠ 3` (R121). -/
  | invalidLength
  /-- XFORM, BLOCK or BLOCK2 with `CONF = 0` (R122). -/
  | notConfigured
  deriving DecidableEq, Repr

/-- The value of the field `ERR[3:0]` (R119). -/
def ErrCode.code : ErrCode → BitVec 4
  | .ok => 0
  | .illegalCmd => 1
  | .invalidLength => 2
  | .notConfigured => 3

/-- The bit `DUAL` (R31): hardwired by `ENGINE`. -/
def dualBit (e : Engine) : Bool :=
  match e with
  | .scalar => false
  | .dual => true

/-- The status word (R31): `ERR[3:0]`, `CONF[8:8]`, `DUAL[9:9]`, every other bit 0. -/
def statusWord (err : ErrCode) (conf : Bool) (e : Engine) : Word :=
  (((0#22 ++ BitVec.ofBool (dualBit e)) ++ BitVec.ofBool conf) ++ 0#4) ++ err.code

end Sys2Proof.Machine
end

