-- ==== Sys2Proof/Machine/Operands.lean ====
section
/-! DEFINITION. From the operand words and bytes of a command to the values its meaning uses (30_encoding.md R58, R59, R62,
20_memory.md R37, R38). No operand is shifted, scaled or extended. -/

namespace Sys2Proof.Machine

/-- `KEY[0..7]` from INIT's key words, word 0 first (R37); none unless there are exactly 8 (R74). -/
def keyOfWords : List Word → Option Key
  | [k0, k1, k2, k3, k4, k5, k6, k7] => some ⟨k0, k1, k2, k3, k4, k5, k6, k7⟩
  | _ => none

/-- `NONCE[0..2]` from INIT's nonce words, word 0 first (R37); none unless there are exactly 3 (R74). -/
def nonceOfWords : List Word → Option Nonce
  | [n0, n1, n2] => some ⟨n0, n1, n2⟩
  | _ => none

/-- The key words as INIT supplied them (R20). -/
def Key.toList (k : Key) : List Word := [k.k0, k.k1, k.k2, k.k3, k.k4, k.k5, k.k6, k.k7]

/-- The nonce words as INIT supplied them (R21). -/
def Nonce.toList (n : Nonce) : List Word := [n.n0, n.n1, n.n2]

/-- `ceil_div(a, b)`, the smallest `q` with `q * b >= a` (R14), for `b > 0`. -/
def ceilDiv (a b : Nat) : Nat := (a + (b - 1)) / b

/-- The number of chunks of an XFORM message (R93, R95). -/
def chunkCount (len : Word) : Nat := ceilDiv len.toNat 64

/-- A key or nonce word from its four bytes, the first in bits [31:24] (R37, R69). -/
def wordOfBytes (b0 b1 b2 b3 : Byte) : Word := ((b0 ++ b1) ++ b2) ++ b3

/-- Bytes to words, four at a time, in order (R37); a last group of fewer than four bytes makes no word. -/
def wordsOfBytes : List Byte → List Word
  | b0 :: b1 :: b2 :: b3 :: bs => wordOfBytes b0 b1 b2 b3 :: wordsOfBytes bs
  | _ => []

end Sys2Proof.Machine
end

