-- ==== Sys2Proof/Machine/Ops.lean ====
section
/-! DEFINITION. The operations every meaning is built from: the port primitives (00_scope.md R16), the two ways a command
ends (success, and `raise Error` of R17), and the register updates that more than one command makes. -/

namespace Sys2Proof.Machine

/-! ### Port primitives (R16) -/

/-- What the CMD stream holds next (R30, R46). -/
def State.fetch (s : State) : Decoded := decode s.cmd

/-- The CMD words up to `rest` are consumed (R43). -/
def State.cmdConsumed (s : State) (rest : List Word) : State := { s with cmd := rest }

/-- The next `n` bytes of DIN are consumed (R43). -/
def State.dinConsumed (s : State) (n : Nat) : State := { s with din := s.din.drop n }

/-- Of the next `n` times `DinRead()`, how many do not have to wait (R16, R139). -/
def State.dinReady (s : State) (n : Nat) : Nat := min n s.din.length

/-- `DoutWrite(b)` for each byte in order (R16, R47). -/
def State.doutWrite (s : State) (bs : List Byte) : State := { s with dout := s.dout ++ bs }

/-- `RspWrite(w)` (R16). -/
def State.rspWrite (s : State) (w : Word) : State := { s with rsp := s.rsp ++ [w] }

/-! ### How a command ends -/

/-- A command that succeeds writes its status word with `ERR = 0` and the value of `CONF` after it (R31). -/
def State.finish (s : State) : State := s.rspWrite (statusWord .ok s.conf s.engine)

/-- `raise Error(code)` (R17): no state element is written, one status word says why, and the core goes on to the next
command word (R124, R127). `s` is the state in which the operands the command declared have been consumed. -/
def State.raiseError (s : State) (err : ErrCode) : State := s.rspWrite (statusWord err s.conf s.engine)

/-- An illegal command word is consumed alone and raises `ILLEGAL_CMD` (R63, R120). -/
def State.refuseWord (s : State) (rest : List Word) : State := (s.cmdConsumed rest).raiseError .illegalCmd

/-- The core is stuck in an XFORM that has read `done` of its `LEN` DIN bytes (R139, log 3). -/
def State.awaitMessage (s : State) (len : Word) (done : Nat) : State := { s with pendingXform := some ⟨len, done⟩ }

/-- The XFORM the core was in, if any, has its whole message (log 3). -/
def State.messageArrived (s : State) : State := { s with pendingXform := none }

/-! ### Register updates -/

/-- INIT's writes (R74). -/
def State.loadEngine (s : State) (k : Key) (c : Word) (n : Nonce) : State :=
  { s with key := k, nonce := n, ctr := c, conf := true, matS := initState k c n }

/-- `CTR <- CTR + n` modulo 2^32, and `S` follows it (R25, R89). -/
def State.advance (s : State) (n : Word) : State :=
  { s with ctr := s.ctr + n, matS := initState s.key (s.ctr + n) s.nonce }

/-- WIPE's writes (R116): every register zero, `V0 .. V3` too where there are any. -/
def State.wipeRegisters (s : State) : State :=
  { s with
    key := .zero, nonce := .zero, ctr := 0, conf := false
    matS := .zero, matX := .zero, matKS := .zero
    datapath := .zeroOf s.engine }

/-! ### Free values (log 4) -/

/-- A matrix of the free values from index `b` on. -/
def freeMatrix (b : Nat) : WordMatrix :=
  ⟨Config.freeWord b, Config.freeWord (b + 1), Config.freeWord (b + 2), Config.freeWord (b + 3),
   Config.freeWord (b + 4), Config.freeWord (b + 5), Config.freeWord (b + 6), Config.freeWord (b + 7),
   Config.freeWord (b + 8), Config.freeWord (b + 9), Config.freeWord (b + 10), Config.freeWord (b + 11),
   Config.freeWord (b + 12), Config.freeWord (b + 13), Config.freeWord (b + 14), Config.freeWord (b + 15)⟩

/-- A vector register of the free values from index `b` on. -/
def freeLanes (b : Nat) : Lanes :=
  ⟨Config.freeWord b, Config.freeWord (b + 1), Config.freeWord (b + 2), Config.freeWord (b + 3),
   Config.freeWord (b + 4), Config.freeWord (b + 5), Config.freeWord (b + 6), Config.freeWord (b + 7)⟩

/-- The vector registers at the end of a command that generated keystream: free values where they exist (R28, I14). -/
def Datapath.forget (d : Datapath) (b : Nat) : Datapath :=
  match d with
  | .scalar => .scalar
  | .dual _ => .dual ⟨freeLanes b, freeLanes (b + 8), freeLanes (b + 16), freeLanes (b + 24)⟩

/-- The working registers exist only during the command that generates keystream (R27, R28): what `X`, `KS` and
`V0 .. V3` hold after it is left free (I14, log 4). -/
def State.forgetWork (s : State) : State :=
  { s with
    matX := freeMatrix s.freeIx
    matKS := freeMatrix (s.freeIx + 16)
    datapath := s.datapath.forget (s.freeIx + 32)
    freeIx := s.freeIx + 64 }

/-- `forgetWork` after a command that generated `n` blocks: one that generated none used no working register (R94,
log 7). -/
def State.forgetWorkAfter (s : State) (n : Nat) : State :=
  match n with
  | 0 => s
  | _ + 1 => s.forgetWork

end Sys2Proof.Machine
end

