-- ==== Sys2Proof/Machine/Construction.lean ====
section
/-! DEFINITION. INIT, the command that constructs the engine (40_state_init.md). -/

namespace Sys2Proof.Machine

/-- INIT (R74). Its operand words were consumed with its command word, whatever their number (R58). With 8 key words and 3
nonce words it loads the engine, configured or not; with any other count it raises `INVALID_LENGTH` and writes nothing
(R121). It never looks at `CONF` (R126). -/
def execInit (key : List Word) (c : Word) (nonce : List Word) (s : State) : Host.Outcome State Fault Refusal :=
  match keyOfWords key, nonceOfWords nonce with
  | some k, some n => .next (s.loadEngine k c n).finish
  | some _, none => .next (s.raiseError .invalidLength)
  | none, _ => .next (s.raiseError .invalidLength)

end Sys2Proof.Machine
end

