-- ==== Sys2Proof/Machine/Keystream.lean ====
section
/-! DEFINITION. BLOCK (42_block.md) and BLOCK2 (44_dual_lane.md), the commands that return raw keystream. -/

namespace Sys2Proof.Machine

/-- A command that writes keystream bytes `bs` to DOUT and advances the counter by `n` (R92, R113), or raises
`NOT_CONFIGURED` and writes nothing (R122). -/
def State.emitKeystream (s : State) (bs : List Byte) (n : Word) : State :=
  if s.conf then ((s.doutWrite bs).forgetWork.advance n).finish
  else s.raiseError .notConfigured

/-- The 128 bytes of BLOCK2 (R113): one `Block2` pass on the dual engine, two scalar blocks on the scalar one. -/
def pairBytes (e : Engine) (k : Key) (c : Word) (n : Nonce) : List Byte :=
  match e with
  | .scalar => keystreamBytes k c n ++ keystreamBytes k (c + 1) n
  | .dual => dualBytes k c n

/-- BLOCK (R92). -/
def execBlock (s : State) : Host.Outcome State Fault Refusal :=
  .next (s.emitKeystream (keystreamBytes s.key s.ctr s.nonce) 1)

/-- BLOCK2 (R113). It works on both engines (R105). -/
def execBlock2 (s : State) : Host.Outcome State Fault Refusal :=
  .next (s.emitKeystream (pairBytes s.engine s.key s.ctr s.nonce) 2)

end Sys2Proof.Machine
end

