-- ==== Sys2Proof/Machine/StatusWipe.lean ====
section
/-! DEFINITION. RDCTR and WIPE (45_status_wipe.md). Neither has an error after decode (R123, R126). -/

namespace Sys2Proof.Machine

/-- RDCTR (R115): the status word, then the counter, in any `CONF` state; no state written. -/
def execRdctr (s : State) : Host.Outcome State Fault Refusal := .next (s.finish.rspWrite s.ctr)

/-- WIPE (R116): every register zero, then the status word. -/
def execWipe (s : State) : Host.Outcome State Fault Refusal := .next s.wipeRegisters.finish

end Sys2Proof.Machine
end

