-- ==== Sys2Proof/Machine/Transform.lean ====
section
/-! DEFINITION. XFORM, the keystream-to-message transform (43_transform.md), on both engines (44_dual_lane.md R114). -/

namespace Sys2Proof.Machine

/-- Message bytes XOR keystream bytes, pair by pair, as far as both go (R93): the keystream bytes beyond the message are
discarded (R96). -/
def xorBytes (msg ks : List Byte) : List Byte := List.zipWith (· ^^^ ·) msg ks

/-- `n` keystream blocks from counter `c` on (R93, R97), one at a time on the scalar engine. -/
def keystreamScalar (k : Key) (nonce : Nonce) : Word → Nat → List Byte
  | _, 0 => []
  | c, n + 1 => keystreamBytes k c nonce ++ keystreamScalar k nonce (c + 1) n

/-- The same on the dual engine (R114): two blocks a pass, and an odd last one by a scalar block (DESIGN CHOICE, log 8). -/
def keystreamDual (k : Key) (nonce : Nonce) : Word → Nat → List Byte
  | _, 0 => []
  | c, 1 => keystreamBytes k c nonce
  | c, n + 2 => dualBytes k c nonce ++ keystreamDual k nonce (c + 2) n

/-- `n` keystream blocks from counter `c` on, on either engine (R101). -/
def keystreamRun (e : Engine) (k : Key) (nonce : Nonce) (c : Word) (n : Nat) : List Byte :=
  match e with
  | .scalar => keystreamScalar k nonce c n
  | .dual => keystreamDual k nonce c n

/-- The output bytes for the message bytes `msg` that follow the first `done` (R93): message byte `j` goes with byte
`j mod 64` of the block for counter `c + j div 64`. The dual engine pairs its blocks from the first block of this portion on,
where R114 pairs the chunks `2p` and `2p + 1` of the whole message (DESIGN CHOICE, log 8; the bytes are the same). -/
def transformFrom (e : Engine) (k : Key) (nonce : Nonce) (c : Word) (done : Nat) (msg : List Byte) : List Byte :=
  xorBytes msg
    ((keystreamRun e k nonce (c + BitVec.ofNat 32 (done / 64)) (ceilDiv (done % 64 + msg.length) 64)).drop (done % 64))

/-- The next `m` message bytes go through (R93): read and transformed, or, with `CONF = 0`, read and discarded (R122). -/
def State.transferBytes (s : State) (done m : Nat) : State :=
  if s.conf then
    (s.dinConsumed m).doutWrite (transformFrom s.engine s.key s.nonce s.ctr done (s.din.take m))
  else s.dinConsumed m

/-- The end of an XFORM whose whole message has gone through (R93), or the error it raises then (R122). -/
def State.completeXform (s : State) (len : Word) : State :=
  if s.conf then
    ((s.messageArrived.forgetWorkAfter (chunkCount len)).advance (BitVec.ofNat 32 (chunkCount len))).finish
  else s.messageArrived.raiseError .notConfigured

/-- An XFORM that has read `done` message bytes goes on with those that are there, and waits when they do not suffice
(R16, R139). -/
def State.xformFrom (s : State) (len : Word) (done : Nat) : State :=
  if done + s.dinReady (len.toNat - done) < len.toNat then
    (s.transferBytes done (s.dinReady (len.toNat - done))).awaitMessage len (done + s.dinReady (len.toNat - done))
  else (s.transferBytes done (s.dinReady (len.toNat - done))).completeXform len

/-- XFORM (R93). It takes its message bytes as they arrive, and with `CONF = 0` it consumes them all before it raises
`NOT_CONFIGURED` (R122). -/
def execXform (len : Word) (s : State) : Host.Outcome State Fault Refusal := .next (s.xformFrom len 0)

/-- A core stuck in an XFORM goes on with it (R139). -/
def resumeXform (p : XformProgress) (s : State) : Host.Outcome State Fault Refusal := .next (s.xformFrom p.len p.done)

end Sys2Proof.Machine
end

