-- ==== Sys2Proof/Machine/Dispatch.lean ====
section
/-! DEFINITION. The meaning of each command, one arm per constructor of `Instr`. -/

namespace Sys2Proof.Machine

def exec (i : Instr) (s : State) : Host.Outcome State Fault Refusal :=
  match i with
  | .init key c nonce => Sys2Proof.Machine.execInit key c nonce s
  | .xform len => Sys2Proof.Machine.execXform len s
  | .block => Sys2Proof.Machine.execBlock s
  | .block2 => Sys2Proof.Machine.execBlock2 s
  | .rdctr => Sys2Proof.Machine.execRdctr s
  | .wipe => Sys2Proof.Machine.execWipe s

end Sys2Proof.Machine
end

