-- ==== Sys2Proof/Machine/Step.lean ====
section
/-! DEFINITION. One step of the core: one command, from its command word to its last response word (20_memory.md R46), or
one more moment of waiting. -/

namespace Sys2Proof.Machine

/-- One step. A core stuck in an XFORM goes on with it (R139). Otherwise the next command word is decoded (R136): a whole
command is consumed and executed, an illegal word is consumed alone and reported (R63), and with no word, or with operand
words still missing, the core waits and holds all of its state (R135, R139; log 2). -/
def step (s : State) : Host.Outcome State Fault Refusal :=
  match s.pendingXform with
  | some p => resumeXform p s
  | none =>
    match s.fetch with
    | .incomplete => .next s
    | .illegal _ rest => .next (s.refuseWord rest)
    | .command i rest => exec i (s.cmdConsumed rest)

/-- `s` with the table's instruction at the front of CMD, and the message bytes it takes, zeros, at the front of DIN (R61);
no command is in progress. The rest of the queues stays behind it (log 12). -/
def State.withFetchWord (s : State) (nbits w : Nat) : State :=
  { s with
    cmd := tableCommand nbits w ++ s.cmd
    din := List.replicate (tableMessageLength nbits w) 0 ++ s.din
    pendingXform := none }

end Sys2Proof.Machine
end

