-- ==== Sys2Proof/Machine/Assembler.lean ====
section
/-! DEFINITION. The assembly notation of 30_encoding.md R66 and the pseudo-commands of R67, as an abstract syntax with the
CMD words and DIN bytes it stands for. The text itself (number syntax, comments, hex strings) is not modelled (R5,
log 19). -/

namespace Sys2Proof.Machine

/-- One line of R66. -/
inductive AsmLine where
  /-- `INIT k0,..,k7, c, n0,n1,n2` -/
  | init (k : Key) (c : Word) (n : Nonce)
  /-- `INIT.RAW klen, nlen, [w...], c, [w...]`, any counts 0 to 15: the counts are the lists' lengths. -/
  | initRaw (key : List Word) (c : Word) (nonce : List Word)
  /-- `XFORM len, data`, with `len` bytes of data. -/
  | xform (len : Word) (data : List Byte)
  /-- `BLOCK` -/
  | block
  /-- `BLOCK2` -/
  | block2
  /-- `RDCTR` -/
  | rdctr
  /-- `WIPE` -/
  | wipe
  /-- `.WORD w` -/
  | word (w : Word)
  deriving DecidableEq, Repr

/-- The CMD words of a line (R66). -/
def AsmLine.cmdWords : AsmLine → List Word
  | .init k c n => encode (.init k.toList c n.toList)
  | .initRaw key c nonce => encode (.init key c nonce)
  | .xform len _ => encode (.xform len)
  | .block => encode .block
  | .block2 => encode .block2
  | .rdctr => encode .rdctr
  | .wipe => encode .wipe
  | .word w => [w]

/-- The DIN bytes of a line (R66). For data of other than `len` bytes R66 says nothing: longer data is cut to its first `len`
bytes and shorter data is passed as it is (DESIGN CHOICE, log 19). -/
def AsmLine.dinBytes : AsmLine → List Byte
  | .init _ _ _ => []
  | .initRaw _ _ _ => []
  | .xform len data => data.take len.toNat
  | .block => []
  | .block2 => []
  | .rdctr => []
  | .wipe => []
  | .word _ => []

/-- A pseudo-command of R67. -/
inductive PseudoLine where
  /-- `ENCRYPT len, data` -/
  | encrypt (len : Word) (data : List Byte)
  /-- `DECRYPT len, data` -/
  | decrypt (len : Word) (data : List Byte)
  /-- `INIT.HEX`: the 32 key bytes, the counter and the 12 nonce bytes that the hex strings spell. -/
  | initHex (key : List Byte) (c : Word) (nonce : List Byte)
  /-- `KEYSTREAM len` -/
  | keystream (len : Word)
  deriving DecidableEq, Repr

/-- What a pseudo-command expands to (R67). INIT.HEX with other than 32 and 12 bytes expands to the INIT.RAW of the words
its bytes fill (DESIGN CHOICE, log 19). -/
def PseudoLine.expand : PseudoLine → AsmLine
  | .encrypt len data => .xform len data
  | .decrypt len data => .xform len data
  | .initHex key c nonce => .initRaw (wordsOfBytes key) c (wordsOfBytes nonce)
  | .keystream len => .xform len (List.replicate len.toNat 0)

/-- The CMD words of a stream of lines (R66). -/
def assembleCmd (ls : List AsmLine) : List Word := ls.flatMap AsmLine.cmdWords

/-- The DIN bytes of a stream of lines (R66). -/
def assembleDin (ls : List AsmLine) : List Byte := ls.flatMap AsmLine.dinBytes

end Sys2Proof.Machine
end

