-- ==== Sys2Proof/Machine/HostPorts.lean ====
section
/-! DEFINITION. What the host can do to the core between two steps (20_memory.md R35, 70_reset_and_hazards.md R136, R137,
R140; log 17). The queues have no capacity limit here (R140, log 14). -/

namespace Sys2Proof.Machine

/-- The host writes words to CMD; they queue behind what is there (R35). -/
def State.hostWriteCmd (s : State) (ws : List Word) : State := { s with cmd := s.cmd ++ ws }

/-- The host writes bytes to DIN (R35). -/
def State.hostWriteDin (s : State) (bs : List Byte) : State := { s with din := s.din ++ bs }

/-- The host reads up to `n` bytes from DOUT, oldest first: the bytes, and the core after it (R35). -/
def State.hostReadDout (s : State) (n : Nat) : List Byte × State :=
  (s.dout.take n, { s with dout := s.dout.drop n })

/-- The host reads up to `n` words from RSP, oldest first (R35). -/
def State.hostReadRsp (s : State) (n : Nat) : List Word × State :=
  (s.rsp.take n, { s with rsp := s.rsp.drop n })

/-- The host applies reset, or power is lost and comes back (R135, R136): every state element takes its reset value, a
command in progress is abandoned and queued input and output are lost (R137). `ENGINE` is fixed (R9). -/
def State.hostReset (s : State) : State := State.resetFor s.engine

end Sys2Proof.Machine
end

