-- ==== Sys2Proof/Machine/Transfers.lean ====
section
/-! DEFINITION. The port transfers one command makes, in order (20_memory.md R43, R46 to R48). `step` shows a command as one
atomic step (R46), in which the four queues are separate and the order of transfers between them is not visible; this file
says that order. DOUT byte `j` is written as soon as DIN byte `j` has been read, as in the pseudocode of R93: R48 leaves the
core free to read further ahead, so the interleaving is one of those allowed (DESIGN CHOICE, log 15). -/

namespace Sys2Proof.Machine

/-- One indivisible port transfer (R43). -/
inductive Transfer where
  /-- The core reads a word from CMD. -/
  | cmdRead (w : Word)
  /-- The core reads a byte from DIN. -/
  | dinRead (b : Byte)
  /-- The core writes a byte to DOUT. -/
  | doutWrite (b : Byte)
  /-- The core writes a word to RSP. -/
  | rspWrite (w : Word)
  deriving DecidableEq, Repr

/-- The transfer reads a DIN byte. -/
def Transfer.isDinRead : Transfer → Bool
  | .cmdRead _ => false
  | .dinRead _ => true
  | .doutWrite _ => false
  | .rspWrite _ => false

/-- The transfer writes a DOUT byte. -/
def Transfer.isDoutWrite : Transfer → Bool
  | .cmdRead _ => false
  | .dinRead _ => false
  | .doutWrite _ => true
  | .rspWrite _ => false

/-- The transfer writes an RSP word. -/
def Transfer.isRspWrite : Transfer → Bool
  | .cmdRead _ => false
  | .dinRead _ => false
  | .doutWrite _ => false
  | .rspWrite _ => true

/-- The four queues, by themselves. -/
structure Queues where
  cmd : List Word
  din : List Byte
  dout : List Byte
  rsp : List Word
  deriving DecidableEq, Repr

/-- The queues of a state. -/
def State.queues (s : State) : Queues := ⟨s.cmd, s.din, s.dout, s.rsp⟩

/-- What one transfer does to the queues: a read consumes the element it returns and needs it to be there, a write appends
(R43). -/
def Transfer.apply : Transfer → Queues → Option Queues
  | .cmdRead w, ⟨v :: cmd, din, dout, rsp⟩ => if v = w then some ⟨cmd, din, dout, rsp⟩ else none
  | .cmdRead _, ⟨[], _, _, _⟩ => none
  | .dinRead b, ⟨cmd, v :: din, dout, rsp⟩ => if v = b then some ⟨cmd, din, dout, rsp⟩ else none
  | .dinRead _, ⟨_, [], _, _⟩ => none
  | .doutWrite b, q => some { q with dout := q.dout ++ [b] }
  | .rspWrite w, q => some { q with rsp := q.rsp ++ [w] }

/-- A sequence of transfers, one after the other. -/
def replay : List Transfer → Queues → Option Queues
  | [], q => some q
  | t :: ts, q =>
    match t.apply q with
    | none => none
    | some q' => replay ts q'

/-- XFORM's data movement: message byte `j` in, output byte `j` out, in ascending `j` (R47, R103). -/
def interleave : List Byte → List Byte → List Transfer
  | m :: ms, o :: os => .dinRead m :: .doutWrite o :: interleave ms os
  | _, _ => []

/-- The transfers of BLOCK and BLOCK2: the bytes in ascending order, then the status word (R47, R92, R113). -/
def keystreamTransfers (s : State) (bs : List Byte) : List Transfer :=
  if s.conf then bs.map .doutWrite ++ [.rspWrite (statusWord .ok true s.engine)]
  else [.rspWrite (statusWord .notConfigured false s.engine)]

/-- The transfers of XFORM after its CMD words (R93). -/
def xformTransfers (len : Word) (s : State) : List Transfer :=
  if s.conf then
    interleave (s.din.take len.toNat)
        (transformFrom s.engine s.key s.nonce s.ctr 0 (s.din.take len.toNat))
      ++ [.rspWrite (statusWord .ok true s.engine)]
  else (s.din.take len.toNat).map .dinRead ++ [.rspWrite (statusWord .notConfigured false s.engine)]

/-- The transfers of a command after its CMD words. -/
def bodyTransfers : Instr → State → List Transfer
  | .init key _ nonce, s =>
    if key.length = 8 ∧ nonce.length = 3 then [.rspWrite (statusWord .ok true s.engine)]
    else [.rspWrite (statusWord .invalidLength s.conf s.engine)]
  | .xform len, s => xformTransfers len s
  | .block, s => keystreamTransfers s (keystreamBytes s.key s.ctr s.nonce)
  | .block2, s => keystreamTransfers s (pairBytes s.engine s.key s.ctr s.nonce)
  | .rdctr, s => [.rspWrite (statusWord .ok s.conf s.engine), .rspWrite s.ctr]
  | .wipe, s => [.rspWrite (statusWord .ok false s.engine)]

/-- Every transfer of a command whose operands are all there: its CMD words, then its body. -/
def transfers (i : Instr) (s : State) : List Transfer := (encode i).map .cmdRead ++ bodyTransfers i s

end Sys2Proof.Machine
end

