-- ==== Sys2Proof/Safety.lean ====
section
/-! DEFINITION. What counts as a safe run of the core, in the terms the statements use: the invariant of its state, and
what two states may differ in without the host seeing it. -/

namespace Sys2Proof.Machine

/-- The core goes on: it answers a next state, neither a fault nor a refusal (R123, R127, R139). -/
def GoesOn (s : State) : Prop := ∃ t, step s = .next t

/-- Between commands, whenever `CONF = 1`, `S = InitState(KEY, CTR, NONCE)` (R25). -/
def State.MatrixFollows (s : State) : Prop :=
  s.conf = true → s.matS = initState s.key s.ctr s.nonce

/-- While `CONF = 0` no key material is left: `KEY`, `NONCE`, `CTR` and `S` are zero, since only reset and WIPE clear `CONF`
and both zero them (R24, R34, R116). -/
def State.NoResidue (s : State) : Prop :=
  s.conf = false → s.key = .zero ∧ s.nonce = .zero ∧ s.ctr = 0 ∧ s.matS = .zero

/-- An XFORM that waits has not read its whole message (R139). -/
def State.ProgressFits (s : State) : Prop :=
  ∀ p, s.pendingXform = some p → p.done < p.len.toNat

/-- The invariant of the core. -/
structure State.Inv (s : State) : Prop where
  matrixFollows : s.MatrixFollows
  noResidue : s.NoResidue
  progressFits : s.ProgressFits

/-- No command is in progress, the next command is `i`, all its CMD words and all its message bytes are there, and `rest`
stands behind it on CMD (R61, R139). -/
def State.Ready (s : State) (i : Instr) (rest : List Word) : Prop :=
  s.pendingXform = none ∧ decode s.cmd = .command i rest ∧ i.messageLength ≤ s.din.length

/-- The two states differ at most in what a working register holds (R27, R28) and in the model's free-value index. -/
structure SameButWork (s t : State) : Prop where
  cmd : s.cmd = t.cmd
  din : s.din = t.din
  dout : s.dout = t.dout
  rsp : s.rsp = t.rsp
  key : s.key = t.key
  nonce : s.nonce = t.nonce
  ctr : s.ctr = t.ctr
  conf : s.conf = t.conf
  matS : s.matS = t.matS
  engine : s.engine = t.engine
  pendingXform : s.pendingXform = t.pendingXform

/-- The two states differ at most in `KEY`, `NONCE`, `S`, `X`, `KS`, `V0 .. V3` (R118), in the model's free-value index and in
the values (not the number) of the bytes on DOUT. -/
structure SameButSecrets (s t : State) : Prop where
  cmd : s.cmd = t.cmd
  din : s.din = t.din
  doutLength : s.dout.length = t.dout.length
  rsp : s.rsp = t.rsp
  ctr : s.ctr = t.ctr
  conf : s.conf = t.conf
  engine : s.engine = t.engine
  pendingXform : s.pendingXform = t.pendingXform

end Sys2Proof.Machine
end

