-- ==== Sys2Proof/Certificates/Slice0/Obligations.lean ====
section
/-! DEFINITION. The statements for the provers. The functions under `Sys2Proof.Spec` say in plain numbers what a rule of the
spec says, apart from the model's own definitions, so that a statement compares the two. No statement rests on the value
of a working register after a command or on the free-value index: those are left open (93_implementation_defined.md I14,
logs 4 and 5). -/

open Sys2Proof Sys2Proof.Machine

/-! ### The spec in plain numbers -/

/-- R31's table as a sum: `ERR` in bits 3..0, `CONF` worth 2^8, `DUAL` worth 2^9, every other bit 0. -/
def Sys2Proof.Spec.status (err : Nat) (conf : Bool) (e : Engine) : Word :=
  BitVec.ofNat 32 (err + (if conf then 256 else 0) + (if e = .dual then 512 else 0))

/-- `KLEN[11:8]` of a command word (R55). -/
def Sys2Proof.Spec.klen (w : Word) : Nat := w.toNat / 256 % 16

/-- `NLEN[15:12]` of a command word (R55). -/
def Sys2Proof.Spec.nlen (w : Word) : Nat := w.toNat / 4096 % 16

/-- R63's three clauses. -/
def Sys2Proof.Spec.IsIllegal (w : Word) : Prop :=
  (w.toNat % 256 = 0 ∨ 7 ≤ w.toNat % 256) ∨ w.toNat / 65536 ≠ 0 ∨
    (w.toNat % 256 ≠ 1 ∧ (Spec.klen w ≠ 0 ∨ Spec.nlen w ≠ 0))

/-- The number of CMD words of the command, or illegal word, that starts with `w` (R61). -/
def Sys2Proof.Spec.cmdLength (w : Word) : Nat :=
  if w &&& 0xFFFF00FF#32 = 1#32 then 2 + Spec.klen w + Spec.nlen w
  else if w = 2#32 then 2
  else 1

/-- `ceil_div(n, 64)` (R14). -/
def Sys2Proof.Spec.blocksFor (n : Nat) : Nat := (n + 63) / 64

/-- Byte `j` of the raw keystream from counter `c` on: byte `j mod 64` of block number `j div 64` (R93, R97). -/
def Sys2Proof.Spec.keystreamByte (k : Key) (c : Word) (n : Nonce) (j : Nat) : Byte :=
  (keystreamBytes k (c + BitVec.ofNat 32 (j / 64)) n).getD (j % 64) 0

/-- `q` blocks of raw keystream from counter `c` on (R100). -/
def Sys2Proof.Spec.keystream (k : Key) (c : Word) (n : Nonce) (q : Nat) : List Byte :=
  (List.range q).flatMap fun i => keystreamBytes k (c + BitVec.ofNat 32 i) n

/-- `ERR` of a legal command with its operands there (R119, R121, R122, R126). -/
def Sys2Proof.Spec.errorOf (i : Instr) (conf : Bool) : Nat :=
  match i with
  | .init key _ nonce => if key.length = 8 ∧ nonce.length = 3 then 0 else 2
  | .xform _ => if conf then 0 else 3
  | .block => if conf then 0 else 3
  | .block2 => if conf then 0 else 3
  | .rdctr => 0
  | .wipe => 0

/-- The same command `n` times over; none if it does not go on. -/
def Sys2Proof.Spec.repeatExec (i : Instr) : Nat → State → Option State
  | 0, s => some s
  | n + 1, s =>
    match exec i s with
    | .next t => Spec.repeatExec i n t
    | .fault _ => none
    | .refused _ => none

/-- The index sets of the column pass, in R82's order. -/
def Sys2Proof.Spec.columns : List (Nat × Nat × Nat × Nat) :=
  [(0, 4, 8, 12), (1, 5, 9, 13), (2, 6, 10, 14), (3, 7, 11, 15)]

/-- The index sets of the diagonal pass, in R82's order. -/
def Sys2Proof.Spec.diagonals : List (Nat × Nat × Nat × Nat) :=
  [(0, 5, 10, 15), (1, 6, 11, 12), (2, 7, 8, 13), (3, 4, 9, 14)]

/-- `QR_S` on each index set of a list, one after the other (R80). -/
def Sys2Proof.Spec.runPass (qs : List (Nat × Nat × Nat × Nat)) (m : WordMatrix) : WordMatrix :=
  qs.foldl (fun m q => m.quarterRoundAt q.1 q.2.1 q.2.2.1 q.2.2.2) m

/-! ### Encoding -/

/-- Every well-formed command, with every operand, is read back from its own words, whatever follows it (R55 to R60). -/
def Obligations.DecodeOfEncodeGivesTheInstruction : Prop :=
  ∀ (i : Instr) (rest : List Word), i.WellFormed → decode (encode i ++ rest) = .command i rest

/-- Nothing else decodes to a command: the words before `rest` are the command's own encoding (R55 to R60). -/
def Obligations.DecodedCommandsAreExactlyEncodings : Prop :=
  ∀ (ws : List Word) (i : Instr) (rest : List Word),
    decode ws = .command i rest → i.WellFormed ∧ ws = encode i ++ rest

/-- R57. -/
def Obligations.CommandWordSelectsByMaskAndMatch : Prop :=
  ∀ w : Word,
    (selectOp w = some .init ↔ w &&& 0xFFFF00FF#32 = 0x00000001#32) ∧
    (selectOp w = some .xform ↔ w = 0x00000002#32) ∧
    (selectOp w = some .block ↔ w = 0x00000003#32) ∧
    (selectOp w = some .block2 ↔ w = 0x00000004#32) ∧
    (selectOp w = some .rdctr ↔ w = 0x00000005#32) ∧
    (selectOp w = some .wipe ↔ w = 0x00000006#32)

/-- R63, R120: which words are illegal, and all that an illegal word does. -/
def Obligations.IllegalWordIsConsumedAloneAndReported : Prop :=
  ∀ (w : Word) (ws : List Word),
    ((∃ why rest, decode (w :: ws) = .illegal why rest) ↔ Spec.IsIllegal w) ∧
    ∀ s : State, s.pendingXform = none → s.cmd = w :: ws → Spec.IsIllegal w →
      step s = .next { s with cmd := ws, rsp := s.rsp ++ [Spec.status 1 s.conf s.engine] }

/-- R58: the order of INIT's operands, and that all of them are read before any check, whatever the counts are. -/
def Obligations.InitReadsAllItsOperandsInOrder : Prop :=
  ∀ (s : State) (w : Word) (k : List Word) (c : Word) (n rest : List Word),
    w &&& 0xFFFF00FF#32 = 0x00000001#32 → k.length = Spec.klen w → n.length = Spec.nlen w →
    s.pendingXform = none → s.cmd = w :: (k ++ c :: n ++ rest) →
      decode s.cmd = .command (.init k c n) rest ∧ ∃ t, step s = .next t ∧ t.cmd = rest

/-- R61: the first word alone tells how many CMD words a command or illegal word takes, and XFORM's second word how many DIN
bytes; a command waits only when fewer words are there, and one whose words and message bytes are there takes exactly
them. -/
def Obligations.CommandLengthIsKnownFromTheFirstWord : Prop :=
  ∀ (w : Word) (ws : List Word),
    (decode (w :: ws) = .incomplete ↔ (w :: ws).length < Spec.cmdLength w) ∧
    (∀ i rest, decode (w :: ws) = .command i rest →
      rest = (w :: ws).drop (Spec.cmdLength w) ∧ i.messageLength = if w = 2#32 then (ws.headD 0).toNat else 0) ∧
    (∀ why rest, decode (w :: ws) = .illegal why rest → rest = (w :: ws).drop (Spec.cmdLength w)) ∧
    (∀ (s : State) (i : Instr) (rest : List Word), s.cmd = w :: ws → s.Ready i rest →
      ∃ t, step s = .next t ∧ t.cmd = rest ∧ t.din = s.din.drop i.messageLength)

/-- Words written out from R55, R56 and R58 to R60, and an illegal one of R63 (a sanity check of the decoder). The name the
decoder gives the illegal word's clause is the model's choice (log 13). -/
def Obligations.SampleWordsDecode : Prop :=
  decode [0x00002101#32, 7#32, 8#32, 9#32, 10#32, 0x00000006#32] =
      .command (.init [7#32] 8#32 [9#32, 10#32]) [0x00000006#32] ∧
    decode [0x00000002#32, 0x00000072#32] = .command (.xform 0x72#32) [] ∧
    decode [0x00000004#32, 0x00000005#32] = .command .block2 [0x00000005#32] ∧
    decode [0x00000102#32, 0x00000006#32] = .illegal .lengthFieldSet [0x00000006#32] ∧
    decode [0x00000001#32] = .incomplete

/-! ### The step -/

/-- A step runs the decoded command: its CMD words are consumed and `exec` does the rest; a core stuck in an XFORM goes on
with that one (R46, R136, R139). -/
def Obligations.StepRunsTheDecodedCommand : Prop :=
  (∀ (s : State) (i : Instr) (rest : List Word), s.pendingXform = none → decode s.cmd = .command i rest →
    step s = exec i { s with cmd := rest }) ∧
  (∀ (s : State) (p : XformProgress), s.pendingXform = some p → step s = resumeXform p s)

/-- An idle core, and a core whose command lacks operand words, holds all of its state (R135, R139). That words of a
command not yet complete stay queued is the model's choice (log 2). -/
def Obligations.MissingWordsLeaveTheCoreWaiting : Prop :=
  ∀ (s : State), s.pendingXform = none →
    (s.cmd = [] ∨ ∃ w ws, s.cmd = w :: ws ∧ ws.length + 1 < Spec.cmdLength w) → step s = .next s

/-- No state stops the core: no trap, no fault, no refusal (R45, R123, R127, R139). -/
def Obligations.EveryStateGoesOn : Prop := ∀ s : State, GoesOn s

/-- A step only consumes from the front of CMD and DIN and only appends to DOUT and RSP (R43, R53). -/
def Obligations.PortsOnlyConsumeAndAppend : Prop :=
  ∀ s t : State, step s = .next t →
    ∃ ws bs os rs, s.cmd = ws ++ t.cmd ∧ s.din = bs ++ t.din ∧ t.dout = s.dout ++ os ∧ t.rsp = s.rsp ++ rs

/-! ### INIT -/

/-- R74, the success half: the new registers, the status word, and nothing else (R20, R21, R23, R24). That `X`, `KS`, `V0 .. V3`
are among what does not change is the model's choice (log 7). -/
def Obligations.InitLoadsTheEngine : Prop :=
  ∀ (s : State) (k0 k1 k2 k3 k4 k5 k6 k7 c n0 n1 n2 : Word),
    exec (.init [k0, k1, k2, k3, k4, k5, k6, k7] c [n0, n1, n2]) s =
      .next { s with
        key := ⟨k0, k1, k2, k3, k4, k5, k6, k7⟩, nonce := ⟨n0, n1, n2⟩, ctr := c, conf := true
        matS := initState ⟨k0, k1, k2, k3, k4, k5, k6, k7⟩ c ⟨n0, n1, n2⟩
        rsp := s.rsp ++ [Spec.status 0 true s.engine] }

/-- R121: with any other count INIT reads all its operand words, then reports the error, and the core keeps its previous
configuration. -/
def Obligations.InitOfWrongLengthWritesNoState : Prop :=
  ∀ (s : State) (key : List Word) (c : Word) (nonce : List Word), key.length ≠ 8 ∨ nonce.length ≠ 3 →
    exec (.init key c nonce) s = .next { s with rsp := s.rsp ++ [Spec.status 2 s.conf s.engine] } ∧
    ∀ rest : List Word, key.length ≤ 15 → nonce.length ≤ 15 → s.pendingXform = none →
      s.cmd = encode (.init key c nonce) ++ rest →
        step s = .next { s with cmd := rest, rsp := s.rsp ++ [Spec.status 2 s.conf s.engine] }

/-- R69, R71, R72, R37, R38: the state matrix, serialized, is the text `expand 32-byte k`, the 32 key bytes in order, the
counter least significant byte first, and the 12 nonce bytes in order. -/
def Obligations.StateMatrixSpellsKeyAndNonceBytes : Prop :=
  ∀ kb nb : List Byte, kb.length = 32 → nb.length = 12 →
    ∃ k n, keyOfWords (wordsOfBytes kb) = some k ∧ nonceOfWords (wordsOfBytes nb) = some n ∧
      ∀ c : Word, serialize (initState k c n) =
        [0x65, 0x78, 0x70, 0x61, 0x6e, 0x64, 0x20, 0x33, 0x32, 0x2d, 0x62, 0x79, 0x74, 0x65, 0x20, 0x6b] ++ kb ++
          (List.range 4).map (fun j => BitVec.ofNat 8 (c.toNat / 2 ^ (8 * j))) ++ nb

/-- R70. -/
def Obligations.ByteSwapUndoesItself : Prop :=
  (∀ x : Word, bswap32 (bswap32 x) = x) ∧ bswap32 0x00000000 = 0x00000000 ∧ bswap32 0xFFFFFFFF = 0xFFFFFFFF ∧
    bswap32 0x00010203 = 0x03020100

/-! ### The permutation and the block function -/

/-- R77. -/
def Obligations.RotlIsTheCircularShift : Prop :=
  (∀ (x : Word) (s : Nat), 0 < s → s < 32 →
    (rotl x s).toNat = (x.toNat * 2 ^ s % 2 ^ 32) ||| (x.toNat / 2 ^ (32 - s)) ∧
    ∀ i, i < 32 → (rotl x s).getLsbD ((i + s) % 32) = x.getLsbD i) ∧
  rotl 0x80000000 7 = 0x00000040 ∧ rotl 0x12345678 16 = 0x56781234 ∧ rotl 0x00000001 12 = 0x00001000 ∧
  rotl 0xFF000000 8 = 0x000000FF

/-- R81. -/
def Obligations.QuarterRoundIsABijection : Prop :=
  (∀ a b c d a' b' c' d', quarterRound a b c d = quarterRound a' b' c' d' → a = a' ∧ b = b' ∧ c = c' ∧ d = d') ∧
  (∀ y, ∃ a b c d, quarterRound a b c d = y) ∧
  quarterRound 0 0 0 0 = (0, 0, 0, 0) ∧
  quarterRound 0x11111111 0x01020304 0x9b8d6f43 0x01234567 = (0xea2a92f4, 0xcb1cf8ce, 0x4581472e, 0x5881c4bb)

/-- R82, R83: inside a pass any order of the four quarter rounds gives the matrix, and each acts on the words the pass was
given, as if all ran at once; the order of the two passes does matter. -/
def Obligations.OrderInsideAPassDoesNotMatter : Prop :=
  (∀ (qs : List (Nat × Nat × Nat × Nat)) (m : WordMatrix), qs.Perm Spec.columns → Spec.runPass qs m = columnPass m) ∧
  (∀ (qs : List (Nat × Nat × Nat × Nat)) (m : WordMatrix), qs.Perm Spec.diagonals → Spec.runPass qs m = diagonalPass m) ∧
  (∀ (m : WordMatrix) (i j k l : Nat), (i, j, k, l) ∈ Spec.columns →
    ((columnPass m).get i, (columnPass m).get j, (columnPass m).get k, (columnPass m).get l) =
      quarterRound (m.get i) (m.get j) (m.get k) (m.get l)) ∧
  (∀ (m : WordMatrix) (i j k l : Nat), (i, j, k, l) ∈ Spec.diagonals →
    ((diagonalPass m).get i, (diagonalPass m).get j, (diagonalPass m).get k, (diagonalPass m).get l) =
      quarterRound (m.get i) (m.get j) (m.get k) (m.get l)) ∧
  (∃ m : WordMatrix, diagonalPass (columnPass m) ≠ columnPass (diagonalPass m))

/-- R85, R86, R87: word `i` of the block is word `i` after ten double rounds plus word `i` before them. -/
def Obligations.BlockAddsTheOriginalMatrix : Prop :=
  ∀ (m : WordMatrix) (i : Nat), i < 16 →
    (blockFn m).get i = ((List.range 10).foldl (fun x _ => doubleRound x) m).get i + m.get i

/-- R90. -/
def Obligations.SerializationIsLittleEndian : Prop :=
  ∀ m : WordMatrix, (serialize m).length = 64 ∧
    ∀ k, k < 64 → (serialize m).getD k 0 = BitVec.ofNat 8 ((m.get (k / 4)).toNat / 2 ^ (8 * (k % 4)) % 256)

/-- R104, R112: one pass of the dual-lane datapath gives the two scalar blocks, whatever its lane layout. -/
def Obligations.DualPassIsTwoScalarBlocks : Prop :=
  ∀ (k : Key) (c : Word) (n : Nonce), dualBlocks k c n = (keystreamBlock k c n, keystreamBlock k (c + 1) n)

/-! ### BLOCK and BLOCK2 -/

/-- R92: the block for the current counter on DOUT, then the counter advanced by one, and no other change that is
observable. -/
def Obligations.BlockEmitsTheCurrentBlock : Prop :=
  ∀ s : State, s.conf = true → ∃ t, exec .block s = .next t ∧
    t = { s with
      dout := s.dout ++ keystreamBytes s.key s.ctr s.nonce
      ctr := s.ctr + 1, matS := initState s.key (s.ctr + 1) s.nonce
      rsp := s.rsp ++ [Spec.status 0 true s.engine]
      matX := t.matX, matKS := t.matKS, datapath := t.datapath, freeIx := t.freeIx } ∧
    t.engine = s.engine

/-- R113, on both engines: the blocks for `CTR` and `CTR + 1`, in that order, the counter advanced by two, and no other change
that is observable. -/
def Obligations.Block2EmitsTheNextTwoBlocks : Prop :=
  ∀ s : State, s.conf = true → ∃ t, exec .block2 s = .next t ∧
    t = { s with
      dout := s.dout ++ keystreamBytes s.key s.ctr s.nonce ++ keystreamBytes s.key (s.ctr + 1) s.nonce
      ctr := s.ctr + 2, matS := initState s.key (s.ctr + 2) s.nonce
      rsp := s.rsp ++ [Spec.status 0 true s.engine]
      matX := t.matX, matKS := t.matKS, datapath := t.datapath, freeIx := t.freeIx } ∧
    t.engine = s.engine

/-- R113's corner case: BLOCK2 leaves the same output, counter and matrix as two BLOCKs. -/
def Obligations.Block2EqualsTwoBlocks : Prop :=
  ∀ s : State, s.conf = true → ∃ a b c, exec .block s = .next a ∧ exec .block a = .next b ∧ exec .block2 s = .next c ∧
    c.dout = b.dout ∧ c.ctr = b.ctr ∧ c.matS = b.matS

/-- R92's corner case: BLOCK leaves the same output, counter and matrix as XFORM of 64 zero bytes. -/
def Obligations.BlockEqualsXformOf64Zeros : Prop :=
  ∀ s : State, s.conf = true → ∃ a b, exec .block s = .next a ∧
    exec (.xform 64) { s with din := List.replicate 64 0 ++ s.din } = .next b ∧
    b.dout = a.dout ∧ b.ctr = a.ctr ∧ b.matS = a.matS ∧ b.din = a.din

/-- R23: after INIT, block number `j` uses counter `c + j`, for every number of blocks. -/
def Obligations.BlocksAfterInitCountUpFromItsCounter : Prop :=
  ∀ (s : State) (k : Key) (c : Word) (n : Nonce) (q : Nat), ∃ t u,
    exec (.init k.toList c n.toList) s = .next t ∧ Spec.repeatExec .block q t = some u ∧
      u.dout = s.dout ++ Spec.keystream k c n q ∧ u.ctr = c + BitVec.ofNat 32 q ∧
      u.matS = initState k (c + BitVec.ofNat 32 q) n

/-! ### XFORM -/

/-- R93, on both engines. Configured: output byte `j` is message byte `j` XOR keystream byte `j`, the counter advances by the
number of chunks, and nothing else that is observable changes. Unconfigured: the message is consumed and nothing
written. -/
def Obligations.XformTransformsTheMessage : Prop :=
  ∀ (s : State) (len : Word), len.toNat ≤ s.din.length →
    (s.conf = true → ∃ t out, exec (.xform len) s = .next t ∧ out.length = len.toNat ∧
      (∀ j, j < len.toNat → out.getD j 0 = s.din.getD j 0 ^^^ Spec.keystreamByte s.key s.ctr s.nonce j) ∧
      t = { s with
        din := s.din.drop len.toNat, dout := s.dout ++ out
        ctr := s.ctr + BitVec.ofNat 32 (Spec.blocksFor len.toNat)
        matS := initState s.key (s.ctr + BitVec.ofNat 32 (Spec.blocksFor len.toNat)) s.nonce
        rsp := s.rsp ++ [Spec.status 0 true s.engine], pendingXform := none
        matX := t.matX, matKS := t.matKS, datapath := t.datapath, freeIx := t.freeIx } ∧
      t.engine = s.engine) ∧
    (s.conf = false → exec (.xform len) s = .next { s with
        din := s.din.drop len.toNat, rsp := s.rsp ++ [Spec.status 3 false s.engine], pendingXform := none })

/-- R94: length preservation, and the empty message. -/
def Obligations.XformPreservesLength : Prop :=
  ∀ (s : State) (len : Word), s.conf = true → len.toNat ≤ s.din.length →
    ∃ t, exec (.xform len) s = .next t ∧ t.dout.length = s.dout.length + len.toNat ∧
      (len = 0 → t.din = s.din ∧ t.dout = s.dout ∧ t.ctr = s.ctr ∧ t.rsp = s.rsp ++ [Spec.status 0 true s.engine])

/-- R98, also when the two cores have different engines. -/
def Obligations.XformUndoesItself : Prop :=
  ∀ (s₁ s₂ : State) (len : Word) (m r₁ r₂ : List Byte), s₁.conf = true → s₂.conf = true →
    s₁.key = s₂.key → s₁.nonce = s₂.nonce → s₁.ctr = s₂.ctr → m.length = len.toNat →
    ∃ t₁ t₂ x, exec (.xform len) { s₁ with din := m ++ r₁ } = .next t₁ ∧ t₁.dout = s₁.dout ++ x ∧
      x.length = m.length ∧
      exec (.xform len) { s₂ with din := x ++ r₂ } = .next t₂ ∧ t₂.dout = s₂.dout ++ m

/-- R99, its first sentence: two XFORMs whose split lies at a multiple of 64 do what one does. -/
def Obligations.XformSplitsAtBlockBoundaries : Prop :=
  ∀ (s : State) (len₁ len₂ : Word), s.conf = true → len₁.toNat % 64 = 0 → len₁.toNat + len₂.toNat < 2 ^ 32 →
    len₁.toNat + len₂.toNat ≤ s.din.length →
    ∃ a b c, exec (.xform len₁) s = .next a ∧ exec (.xform len₂) a = .next b ∧ exec (.xform (len₁ + len₂)) s = .next c ∧
      b.dout = c.dout ∧ b.din = c.din ∧ b.ctr = c.ctr ∧ b.matS = c.matS

/-- R100, through the pseudo-command KEYSTREAM of R67: it returns the first `len` bytes of the raw keystream. -/
def Obligations.KeystreamPseudoCommandReturnsKeystream : Prop :=
  ∀ (s : State) (len : Word) (ws : List Word) (bs : List Byte), s.conf = true → s.pendingXform = none →
    s.cmd = (PseudoLine.keystream len).expand.cmdWords ++ ws →
    s.din = (PseudoLine.keystream len).expand.dinBytes ++ bs →
    ∃ t, step s = .next t ∧
      t.dout = s.dout ++ (Spec.keystream s.key s.ctr s.nonce (Spec.blocksFor len.toNat)).take len.toNat ∧
      t.cmd = ws ∧ t.din = bs ∧ t.ctr = s.ctr + BitVec.ofNat 32 (Spec.blocksFor len.toNat)

/-- R93, R139: with message bytes missing, XFORM takes the bytes that are there, and the core is stuck in it. Configured, each
byte read has its output byte written; how many are written at this moment is the model's choice within R48 (log 3).
Nothing else changes. -/
def Obligations.XformWaitsForItsMessage : Prop :=
  ∀ (s : State) (len : Word), s.din.length < len.toNat →
    ∃ out, exec (.xform len) s =
        .next { s with din := [], dout := s.dout ++ out, pendingXform := some ⟨len, s.din.length⟩ } ∧
      (s.conf = false → out = []) ∧
      (s.conf = true → out.length = s.din.length ∧
        ∀ j, j < s.din.length → out.getD j 0 = s.din.getD j 0 ^^^ Spec.keystreamByte s.key s.ctr s.nonce j)

/-- R48, R93, R139, R140: a core stuck in an XFORM takes exactly the message bytes that are there, holds no output byte of
them back, and is out of it exactly when the message is complete: a host that supplies DIN only as it drains DOUT never
deadlocks it. `s` is any state stuck in an XFORM, whatever the host has drained. The waiting state is the model's (log 3). -/
def Obligations.WaitingXformHoldsNothingBack : Prop :=
  ∀ (s : State) (p : XformProgress), s.pendingXform = some p →
    ∃ t out, step s = .next t ∧ t.cmd = s.cmd ∧ t.din = s.din.drop (p.len.toNat - p.done) ∧ t.dout = s.dout ++ out ∧
      (s.conf = false → out = []) ∧
      (s.conf = true → out.length = min (p.len.toNat - p.done) s.din.length ∧
        ∀ j, j < out.length →
          out.getD j 0 = s.din.getD j 0 ^^^ Spec.keystreamByte s.key s.ctr s.nonce (p.done + j)) ∧
      (t.pendingXform = none ↔ p.len.toNat - p.done ≤ s.din.length) ∧
      (t.pendingXform ≠ none → t = { s with
        din := [], dout := s.dout ++ out, pendingXform := some ⟨p.len, p.done + s.din.length⟩ })

/-- R93, R122: the step that completes a waiting XFORM, from any state stuck in one, whatever the host has drained. Configured:
the rest of the output, the counter advanced by all the message's blocks, one status word, and no other change that is
observable. Unconfigured: the rest of the message is consumed and the error reported. -/
def Obligations.WaitingXformCompletes : Prop :=
  ∀ (s : State) (p : XformProgress), s.pendingXform = some p → p.len.toNat ≤ p.done + s.din.length →
    (s.conf = true → ∃ t out, step s = .next t ∧ out.length = p.len.toNat - p.done ∧
      (∀ j, j < out.length →
        out.getD j 0 = s.din.getD j 0 ^^^ Spec.keystreamByte s.key s.ctr s.nonce (p.done + j)) ∧
      t = { s with
        din := s.din.drop (p.len.toNat - p.done), dout := s.dout ++ out
        ctr := s.ctr + BitVec.ofNat 32 (Spec.blocksFor p.len.toNat)
        matS := initState s.key (s.ctr + BitVec.ofNat 32 (Spec.blocksFor p.len.toNat)) s.nonce
        rsp := s.rsp ++ [Spec.status 0 true s.engine], pendingXform := none
        matX := t.matX, matKS := t.matKS, datapath := t.datapath, freeIx := t.freeIx } ∧
      t.engine = s.engine) ∧
    (s.conf = false → step s = .next { s with
        din := s.din.drop (p.len.toNat - p.done), rsp := s.rsp ++ [Spec.status 3 false s.engine], pendingXform := none })

/-- R43, R48, R140: what the host has drained from DOUT and RSP changes nothing of what a step does: draining and then stepping
is stepping and then draining. -/
def Obligations.DrainingOutputChangesNothingElse : Prop :=
  ∀ (s t : State) (n m : Nat), n ≤ s.dout.length → m ≤ s.rsp.length → step s = .next t →
    step ((s.hostReadDout n).2.hostReadRsp m).2 = .next ((t.hostReadDout n).2.hostReadRsp m).2

/-- R16, R139: message bytes supplied in portions have the effect they have when they are there at once. `s` is at an XFORM,
or stuck in one, whose message is not complete. The waiting state is the model's (log 3). -/
def Obligations.MessageInPortionsIsMessageAtOnce : Prop :=
  ∀ (s : State) (bs : List Byte),
    ((∃ len rest, s.pendingXform = none ∧ decode s.cmd = .command (.xform len) rest ∧ s.din.length < len.toNat) ∨
      (∃ p, s.pendingXform = some p ∧ p.done + s.din.length < p.len.toNat)) →
    ∃ w, step s = .next w ∧ step (w.hostWriteDin bs) = step (s.hostWriteDin bs)

/-! ### RDCTR and WIPE -/

/-- R115. -/
def Obligations.RdctrReturnsTheCounter : Prop :=
  ∀ s : State, exec .rdctr s = .next { s with rsp := s.rsp ++ [Spec.status 0 s.conf s.engine, s.ctr] }

/-- R116. -/
def Obligations.WipeZeroesEveryRegister : Prop :=
  ∀ s : State, exec .wipe s = .next { s with
    key := ⟨0, 0, 0, 0, 0, 0, 0, 0⟩, nonce := ⟨0, 0, 0⟩, ctr := 0, conf := false
    matS := ⟨0, 0, 0, 0, 0, 0, 0, 0, 0, 0, 0, 0, 0, 0, 0, 0⟩
    matX := ⟨0, 0, 0, 0, 0, 0, 0, 0, 0, 0, 0, 0, 0, 0, 0, 0⟩
    matKS := ⟨0, 0, 0, 0, 0, 0, 0, 0, 0, 0, 0, 0, 0, 0, 0, 0⟩
    datapath := if s.engine = .dual then
        .dual ⟨⟨0, 0, 0, 0, 0, 0, 0, 0⟩, ⟨0, 0, 0, 0, 0, 0, 0, 0⟩, ⟨0, 0, 0, 0, 0, 0, 0, 0⟩, ⟨0, 0, 0, 0, 0, 0, 0, 0⟩⟩
      else .scalar
    rsp := s.rsp ++ [Spec.status 0 false s.engine] }

/-! ### Status and errors -/

/-- R31's fields, bit by bit, with R119's codes. -/
def Obligations.StatusWordHasItsFields : Prop :=
  ∀ (err : ErrCode) (conf : Bool) (e : Engine),
    (statusWord err conf e).extractLsb' 0 4 = err.code ∧ err.code.toNat ≤ 3 ∧
    (statusWord err conf e).extractLsb' 4 4 = 0 ∧
    (statusWord err conf e).getLsbD 8 = conf ∧
    (statusWord err conf e).getLsbD 9 = decide (e = .dual) ∧
    (statusWord err conf e).extractLsb' 10 22 = 0 ∧
    statusWord err conf e = Spec.status err.code.toNat conf e

/-- R31, R119: every command that has its operands writes exactly one status word, which names the one error it has and shows
`CONF` after it; RDCTR writes the counter after it, and no other command writes a second word. An illegal word writes
one status word too. -/
def Obligations.EveryCommandWritesOneStatusWord : Prop :=
  (∀ (i : Instr) (s t : State), i.messageLength ≤ s.din.length → exec i s = .next t →
    t.rsp = s.rsp ++ Spec.status (Spec.errorOf i s.conf) t.conf t.engine :: (if i = .rdctr then [t.ctr] else [])) ∧
  (∀ (s t : State) (w : Word) (ws : List Word), s.pendingXform = none → s.cmd = w :: ws → Spec.IsIllegal w →
    step s = .next t → t.rsp = s.rsp ++ [Spec.status 1 t.conf t.engine])

/-- R122: each of the three consumes its operands, reports, and writes nothing else. -/
def Obligations.UnconfiguredCoreEmitsNoKeystream : Prop :=
  ∀ s : State, s.conf = false →
    exec .block s = .next { s with rsp := s.rsp ++ [Spec.status 3 false s.engine] } ∧
    exec .block2 s = .next { s with rsp := s.rsp ++ [Spec.status 3 false s.engine] } ∧
    (∀ len : Word, len.toNat ≤ s.din.length →
      exec (.xform len) s = .next { s with
        din := s.din.drop len.toNat, rsp := s.rsp ++ [Spec.status 3 false s.engine], pendingXform := none }) ∧
    ∀ (i : Instr) (rest : List Word), (i = .block ∨ i = .block2 ∨ ∃ len, i = .xform len) → s.Ready i rest →
      step s = .next { s with
        cmd := rest, din := s.din.drop i.messageLength, rsp := s.rsp ++ [Spec.status 3 false s.engine] }

/-- R17, R124, R127: a command that raises an error consumes its operands and writes one status word, and changes nothing
else. -/
def Obligations.ErrorsWriteNoState : Prop :=
  ∀ (i : Instr) (s : State), s.pendingXform = none → i.messageLength ≤ s.din.length → Spec.errorOf i s.conf ≠ 0 →
    exec i s = .next { s with
      din := s.din.drop i.messageLength
      rsp := s.rsp ++ [Spec.status (Spec.errorOf i s.conf) s.conf s.engine] }

/-- R20, R21, R24: only a successful INIT and WIPE write `KEY`, `NONCE` or `CONF`. -/
def Obligations.OnlyInitAndWipeWriteKeyNonceConf : Prop :=
  ∀ (i : Instr) (s t : State), exec i s = .next t →
    (t.key = s.key ∧ t.nonce = s.nonce ∧ t.conf = s.conf) ∨
    (i = .wipe ∧ t.key = .zero ∧ t.nonce = .zero ∧ t.conf = false) ∨
    (∃ k c n, i = .init k.toList c n.toList ∧ t.key = k ∧ t.nonce = n ∧ t.conf = true)

/-- R22, R89, R95: apart from INIT and WIPE, a command that has its operands advances the counter by one for every block of
which bytes went to DOUT. -/
def Obligations.CounterFollowsTheOutput : Prop :=
  ∀ (i : Instr) (s t : State), i.messageLength ≤ s.din.length → exec i s = .next t → i ≠ .wipe → (∀ k c n, i ≠ .init k c n) →
    t.ctr = s.ctr + BitVec.ofNat 32 (Spec.blocksFor (t.dout.length - s.dout.length))

/-! ### Whole-machine rules -/

/-- R25: `S` follows `KEY`, `CTR` and `NONCE`, an unconfigured core holds no key material, and an XFORM that waits has not read
its whole message; every step keeps this, and so does everything the host can do at the ports. -/
def Obligations.EveryStepKeepsTheInvariant : Prop :=
  ∀ s : State, s.Inv →
    (∀ t, step s = .next t → t.Inv) ∧
    (∀ ws, (s.hostWriteCmd ws).Inv) ∧ (∀ bs, (s.hostWriteDin bs).Inv) ∧
    (∀ n, (s.hostReadDout n).2.Inv) ∧ (∀ n, (s.hostReadRsp n).2.Inv) ∧ s.hostReset.Inv

/-- The invariant holds after reset, whichever engine the core was built with (R34). -/
def Obligations.ResetStateIsInvariant : Prop := State.reset.Inv ∧ ∀ e : Engine, (State.resetFor e).Inv

/-- R34: what reset leaves, at the start and from any state, on the engine the core was built with (R9; logs 6 and 17); and
R136: the first word read after it is decoded as a command word, so that whatever command was in progress is abandoned
(R137; log 3). -/
def Obligations.ResetLeavesNothingBehind : Prop :=
  State.reset.engine = Config.engine ∧ (∀ s : State, s.hostReset.engine = s.engine) ∧
  ∀ r : State, (r = State.reset ∨ ∃ s : State, r = s.hostReset) →
    r.key = ⟨0, 0, 0, 0, 0, 0, 0, 0⟩ ∧ r.nonce = ⟨0, 0, 0⟩ ∧ r.ctr = 0 ∧ r.conf = false ∧
    r.matS = ⟨0, 0, 0, 0, 0, 0, 0, 0, 0, 0, 0, 0, 0, 0, 0, 0⟩ ∧
    r.matX = ⟨0, 0, 0, 0, 0, 0, 0, 0, 0, 0, 0, 0, 0, 0, 0, 0⟩ ∧
    r.matKS = ⟨0, 0, 0, 0, 0, 0, 0, 0, 0, 0, 0, 0, 0, 0, 0, 0⟩ ∧
    (∀ v, r.datapath = .dual v → v = .zero) ∧
    r.cmd = [] ∧ r.din = [] ∧ r.dout = [] ∧ r.rsp = [] ∧
    ∀ (ws : List Word) (i : Instr) (rest : List Word), decode ws = .command i rest →
      step (r.hostWriteCmd ws) = exec i (r.hostWriteCmd rest)

/-- R9, R101: two cores that differ in their engine only take the same step, and differ afterwards only in the bit `DUAL` of a
status word (and in what is left of the working registers); neither changes its engine. That they agree while an XFORM waits
is the model's choice (log 3), since R48 lets them read different amounts ahead; so is the engine in the state (log 6). -/
def Obligations.EngineShowsOnlyInTheDualBit : Prop :=
  ∀ (s : State) (v : VRegs), ∃ t₁ t₂ o₁ o₂,
    step { s with datapath := .scalar } = .next t₁ ∧ step { s with datapath := .dual v } = .next t₂ ∧
    t₁.engine = .scalar ∧ t₂.engine = .dual ∧
    t₁.cmd = t₂.cmd ∧ t₁.din = t₂.din ∧ t₁.dout = t₂.dout ∧ t₁.key = t₂.key ∧ t₁.nonce = t₂.nonce ∧ t₁.ctr = t₂.ctr ∧
    t₁.conf = t₂.conf ∧ t₁.matS = t₂.matS ∧ t₁.pendingXform = t₂.pendingXform ∧
    t₁.rsp = s.rsp ++ o₁ ∧ t₂.rsp = s.rsp ++ o₂ ∧
    ((o₁ = [] ∧ o₂ = []) ∨ ∃ w xs, o₁ = w :: xs ∧ o₂ = (w ||| 0x200#32) :: xs)

/-- R27, R28: what a working register holds between commands reaches nothing: states that differ only there take steps that
differ only there. -/
def Obligations.WorkingRegistersCarryNothing : Prop :=
  ∀ s₁ s₂ t₁ : State, SameButWork s₁ s₂ → step s₁ = .next t₁ → ∃ t₂, step s₂ = .next t₂ ∧ SameButWork t₁ t₂

/-- R118: key, nonce and matrices reach the host only as the values of keystream bytes. States that differ only in secrets take
steps after which RSP, the counter and all that is not a secret agree; and while `CONF = 0` the DOUT bytes agree too. -/
def Obligations.SecretsReachOnlyKeystreamBytes : Prop :=
  ∀ s₁ s₂ t₁ : State, SameButSecrets s₁ s₂ → step s₁ = .next t₁ →
    ∃ t₂, step s₂ = .next t₂ ∧ SameButSecrets t₁ t₂ ∧
      (s₁.conf = false → s₁.dout = s₂.dout → t₁.dout = t₂.dout)

/-! ### The order of port transfers -/

/-- R46: the port transfers of a command, one after the other, leave the queues as the atomic step leaves them. -/
def Obligations.TransfersRefineTheAtomicCommand : Prop :=
  ∀ (i : Instr) (s : State) (rest : List Word), i.WellFormed → s.cmd = encode i ++ rest →
    i.messageLength ≤ s.din.length →
    ∃ t, exec i { s with cmd := rest } = .next t ∧ replay (transfers i s) s.queues = some t.queues

/-- R48's bound, for a configured core and for the schedule the model gives (log 15). -/
def Obligations.XformReadsAtMostItsBlocksAhead : Prop :=
  ∀ (s : State) (len : Word) (p : List Transfer), s.conf = true → len.toNat ≤ s.din.length →
    p.IsPrefix (transfers (.xform len) s) →
    p.countP Transfer.isDinRead ≤ p.countP Transfer.isDoutWrite + (if s.engine = .scalar then 64 else 128)

/-- R47: the status word is written after every DOUT byte (and after every operand is read), and only RSP words follow it. -/
def Obligations.StatusWordFollowsTheData : Prop :=
  ∀ (i : Instr) (s : State), ∃ pre w post, transfers i s = pre ++ .rspWrite w :: post ∧
    (∀ x ∈ pre, x.isRspWrite = false) ∧ (∀ x ∈ post, x.isRspWrite = true)
end

