-- ==== Sys2Proof/Laws/Decode.lean ====
section
/-! SUPPORT. What the fields of an encoded command word are, and that the rows of the opcode table are disjoint. -/

namespace Sys2Proof

theorem klenField_initWord (k n : Nibble) : klenField (commandWord 0x01 k n) = k := by
  revert k n; decide

theorem nlenField_initWord (k n : Nibble) : nlenField (commandWord 0x01 k n) = n := by
  revert k n; decide

theorem selectOp_initWord (k n : Nibble) : selectOp (commandWord 0x01 k n) = some .init := by
  revert k n; decide

theorem selectOp_xformWord : selectOp 0x00000002#32 = some .xform := by decide

theorem selectOp_blockWord : selectOp 0x00000003#32 = some .block := by decide

theorem selectOp_block2Word : selectOp 0x00000004#32 = some .block2 := by decide

theorem selectOp_rdctrWord : selectOp 0x00000005#32 = some .rdctr := by decide

theorem selectOp_wipeWord : selectOp 0x00000006#32 = some .wipe := by decide

/-- A word selects at most one row of the opcode table (R57). -/
theorem opTable_disjoint (r₁ r₂ : OpRow) (h₁ : r₁ ∈ opTable) (h₂ : r₂ ∈ opTable) (w : Word)
    (s₁ : r₁.selects w = true) (s₂ : r₂.selects w = true) : r₁ = r₂ := by
  have agree : r₁.pattern &&& r₂.mask = r₂.pattern &&& r₁.mask := by
    simp only [OpRow.selects, beq_iff_eq] at s₁ s₂
    rw [← s₁, ← s₂, BitVec.and_assoc, BitVec.and_assoc, BitVec.and_comm r₁.mask]
  have table : ∀ a ∈ opTable, ∀ b ∈ opTable, a.pattern &&& b.mask = b.pattern &&& a.mask → a = b := by decide
  exact table r₁ h₁ r₂ h₂ agree

end Sys2Proof
end

