-- ==== Sys2Proof/Laws/State.lean ====
section
/-! SUPPORT. One lemma per field per update of the state, so that no later proof unfolds a record update; then what each
update does to `ENGINE`. -/

namespace Sys2Proof.Machine

variable (s : State)

@[simp] theorem State.cmdConsumed_cmd (rest : List Word) : (s.cmdConsumed rest).cmd = rest := rfl
@[simp] theorem State.cmdConsumed_din (rest : List Word) : (s.cmdConsumed rest).din = s.din := rfl
@[simp] theorem State.cmdConsumed_dout (rest : List Word) : (s.cmdConsumed rest).dout = s.dout := rfl
@[simp] theorem State.cmdConsumed_rsp (rest : List Word) : (s.cmdConsumed rest).rsp = s.rsp := rfl
@[simp] theorem State.cmdConsumed_key (rest : List Word) : (s.cmdConsumed rest).key = s.key := rfl
@[simp] theorem State.cmdConsumed_nonce (rest : List Word) : (s.cmdConsumed rest).nonce = s.nonce := rfl
@[simp] theorem State.cmdConsumed_ctr (rest : List Word) : (s.cmdConsumed rest).ctr = s.ctr := rfl
@[simp] theorem State.cmdConsumed_conf (rest : List Word) : (s.cmdConsumed rest).conf = s.conf := rfl
@[simp] theorem State.cmdConsumed_matS (rest : List Word) : (s.cmdConsumed rest).matS = s.matS := rfl
@[simp] theorem State.cmdConsumed_matX (rest : List Word) : (s.cmdConsumed rest).matX = s.matX := rfl
@[simp] theorem State.cmdConsumed_matKS (rest : List Word) : (s.cmdConsumed rest).matKS = s.matKS := rfl
@[simp] theorem State.cmdConsumed_datapath (rest : List Word) : (s.cmdConsumed rest).datapath = s.datapath := rfl
@[simp] theorem State.cmdConsumed_pendingXform (rest : List Word) : (s.cmdConsumed rest).pendingXform = s.pendingXform := rfl
@[simp] theorem State.cmdConsumed_freeIx (rest : List Word) : (s.cmdConsumed rest).freeIx = s.freeIx := rfl

@[simp] theorem State.dinConsumed_cmd (n : Nat) : (s.dinConsumed n).cmd = s.cmd := rfl
@[simp] theorem State.dinConsumed_din (n : Nat) : (s.dinConsumed n).din = s.din.drop n := rfl
@[simp] theorem State.dinConsumed_dout (n : Nat) : (s.dinConsumed n).dout = s.dout := rfl
@[simp] theorem State.dinConsumed_rsp (n : Nat) : (s.dinConsumed n).rsp = s.rsp := rfl
@[simp] theorem State.dinConsumed_key (n : Nat) : (s.dinConsumed n).key = s.key := rfl
@[simp] theorem State.dinConsumed_nonce (n : Nat) : (s.dinConsumed n).nonce = s.nonce := rfl
@[simp] theorem State.dinConsumed_ctr (n : Nat) : (s.dinConsumed n).ctr = s.ctr := rfl
@[simp] theorem State.dinConsumed_conf (n : Nat) : (s.dinConsumed n).conf = s.conf := rfl
@[simp] theorem State.dinConsumed_matS (n : Nat) : (s.dinConsumed n).matS = s.matS := rfl
@[simp] theorem State.dinConsumed_matX (n : Nat) : (s.dinConsumed n).matX = s.matX := rfl
@[simp] theorem State.dinConsumed_matKS (n : Nat) : (s.dinConsumed n).matKS = s.matKS := rfl
@[simp] theorem State.dinConsumed_datapath (n : Nat) : (s.dinConsumed n).datapath = s.datapath := rfl
@[simp] theorem State.dinConsumed_pendingXform (n : Nat) : (s.dinConsumed n).pendingXform = s.pendingXform := rfl
@[simp] theorem State.dinConsumed_freeIx (n : Nat) : (s.dinConsumed n).freeIx = s.freeIx := rfl

@[simp] theorem State.doutWrite_cmd (bs : List Byte) : (s.doutWrite bs).cmd = s.cmd := rfl
@[simp] theorem State.doutWrite_din (bs : List Byte) : (s.doutWrite bs).din = s.din := rfl
@[simp] theorem State.doutWrite_dout (bs : List Byte) : (s.doutWrite bs).dout = s.dout ++ bs := rfl
@[simp] theorem State.doutWrite_rsp (bs : List Byte) : (s.doutWrite bs).rsp = s.rsp := rfl
@[simp] theorem State.doutWrite_key (bs : List Byte) : (s.doutWrite bs).key = s.key := rfl
@[simp] theorem State.doutWrite_nonce (bs : List Byte) : (s.doutWrite bs).nonce = s.nonce := rfl
@[simp] theorem State.doutWrite_ctr (bs : List Byte) : (s.doutWrite bs).ctr = s.ctr := rfl
@[simp] theorem State.doutWrite_conf (bs : List Byte) : (s.doutWrite bs).conf = s.conf := rfl
@[simp] theorem State.doutWrite_matS (bs : List Byte) : (s.doutWrite bs).matS = s.matS := rfl
@[simp] theorem State.doutWrite_matX (bs : List Byte) : (s.doutWrite bs).matX = s.matX := rfl
@[simp] theorem State.doutWrite_matKS (bs : List Byte) : (s.doutWrite bs).matKS = s.matKS := rfl
@[simp] theorem State.doutWrite_datapath (bs : List Byte) : (s.doutWrite bs).datapath = s.datapath := rfl
@[simp] theorem State.doutWrite_pendingXform (bs : List Byte) : (s.doutWrite bs).pendingXform = s.pendingXform := rfl
@[simp] theorem State.doutWrite_freeIx (bs : List Byte) : (s.doutWrite bs).freeIx = s.freeIx := rfl

@[simp] theorem State.rspWrite_cmd (w : Word) : (s.rspWrite w).cmd = s.cmd := rfl
@[simp] theorem State.rspWrite_din (w : Word) : (s.rspWrite w).din = s.din := rfl
@[simp] theorem State.rspWrite_dout (w : Word) : (s.rspWrite w).dout = s.dout := rfl
@[simp] theorem State.rspWrite_rsp (w : Word) : (s.rspWrite w).rsp = s.rsp ++ [w] := rfl
@[simp] theorem State.rspWrite_key (w : Word) : (s.rspWrite w).key = s.key := rfl
@[simp] theorem State.rspWrite_nonce (w : Word) : (s.rspWrite w).nonce = s.nonce := rfl
@[simp] theorem State.rspWrite_ctr (w : Word) : (s.rspWrite w).ctr = s.ctr := rfl
@[simp] theorem State.rspWrite_conf (w : Word) : (s.rspWrite w).conf = s.conf := rfl
@[simp] theorem State.rspWrite_matS (w : Word) : (s.rspWrite w).matS = s.matS := rfl
@[simp] theorem State.rspWrite_matX (w : Word) : (s.rspWrite w).matX = s.matX := rfl
@[simp] theorem State.rspWrite_matKS (w : Word) : (s.rspWrite w).matKS = s.matKS := rfl
@[simp] theorem State.rspWrite_datapath (w : Word) : (s.rspWrite w).datapath = s.datapath := rfl
@[simp] theorem State.rspWrite_pendingXform (w : Word) : (s.rspWrite w).pendingXform = s.pendingXform := rfl
@[simp] theorem State.rspWrite_freeIx (w : Word) : (s.rspWrite w).freeIx = s.freeIx := rfl

@[simp] theorem State.finish_cmd : (s.finish).cmd = s.cmd := rfl
@[simp] theorem State.finish_din : (s.finish).din = s.din := rfl
@[simp] theorem State.finish_dout : (s.finish).dout = s.dout := rfl
@[simp] theorem State.finish_rsp : (s.finish).rsp = s.rsp ++ [statusWord .ok s.conf s.engine] := rfl
@[simp] theorem State.finish_key : (s.finish).key = s.key := rfl
@[simp] theorem State.finish_nonce : (s.finish).nonce = s.nonce := rfl
@[simp] theorem State.finish_ctr : (s.finish).ctr = s.ctr := rfl
@[simp] theorem State.finish_conf : (s.finish).conf = s.conf := rfl
@[simp] theorem State.finish_matS : (s.finish).matS = s.matS := rfl
@[simp] theorem State.finish_matX : (s.finish).matX = s.matX := rfl
@[simp] theorem State.finish_matKS : (s.finish).matKS = s.matKS := rfl
@[simp] theorem State.finish_datapath : (s.finish).datapath = s.datapath := rfl
@[simp] theorem State.finish_pendingXform : (s.finish).pendingXform = s.pendingXform := rfl
@[simp] theorem State.finish_freeIx : (s.finish).freeIx = s.freeIx := rfl

@[simp] theorem State.raiseError_cmd (err : ErrCode) : (s.raiseError err).cmd = s.cmd := rfl
@[simp] theorem State.raiseError_din (err : ErrCode) : (s.raiseError err).din = s.din := rfl
@[simp] theorem State.raiseError_dout (err : ErrCode) : (s.raiseError err).dout = s.dout := rfl
@[simp] theorem State.raiseError_rsp (err : ErrCode) : (s.raiseError err).rsp = s.rsp ++ [statusWord err s.conf s.engine] := rfl
@[simp] theorem State.raiseError_key (err : ErrCode) : (s.raiseError err).key = s.key := rfl
@[simp] theorem State.raiseError_nonce (err : ErrCode) : (s.raiseError err).nonce = s.nonce := rfl
@[simp] theorem State.raiseError_ctr (err : ErrCode) : (s.raiseError err).ctr = s.ctr := rfl
@[simp] theorem State.raiseError_conf (err : ErrCode) : (s.raiseError err).conf = s.conf := rfl
@[simp] theorem State.raiseError_matS (err : ErrCode) : (s.raiseError err).matS = s.matS := rfl
@[simp] theorem State.raiseError_matX (err : ErrCode) : (s.raiseError err).matX = s.matX := rfl
@[simp] theorem State.raiseError_matKS (err : ErrCode) : (s.raiseError err).matKS = s.matKS := rfl
@[simp] theorem State.raiseError_datapath (err : ErrCode) : (s.raiseError err).datapath = s.datapath := rfl
@[simp] theorem State.raiseError_pendingXform (err : ErrCode) : (s.raiseError err).pendingXform = s.pendingXform := rfl
@[simp] theorem State.raiseError_freeIx (err : ErrCode) : (s.raiseError err).freeIx = s.freeIx := rfl

@[simp] theorem State.refuseWord_cmd (rest : List Word) : (s.refuseWord rest).cmd = rest := rfl
@[simp] theorem State.refuseWord_din (rest : List Word) : (s.refuseWord rest).din = s.din := rfl
@[simp] theorem State.refuseWord_dout (rest : List Word) : (s.refuseWord rest).dout = s.dout := rfl
@[simp] theorem State.refuseWord_rsp (rest : List Word) : (s.refuseWord rest).rsp = s.rsp ++ [statusWord .illegalCmd s.conf s.engine] := rfl
@[simp] theorem State.refuseWord_key (rest : List Word) : (s.refuseWord rest).key = s.key := rfl
@[simp] theorem State.refuseWord_nonce (rest : List Word) : (s.refuseWord rest).nonce = s.nonce := rfl
@[simp] theorem State.refuseWord_ctr (rest : List Word) : (s.refuseWord rest).ctr = s.ctr := rfl
@[simp] theorem State.refuseWord_conf (rest : List Word) : (s.refuseWord rest).conf = s.conf := rfl
@[simp] theorem State.refuseWord_matS (rest : List Word) : (s.refuseWord rest).matS = s.matS := rfl
@[simp] theorem State.refuseWord_matX (rest : List Word) : (s.refuseWord rest).matX = s.matX := rfl
@[simp] theorem State.refuseWord_matKS (rest : List Word) : (s.refuseWord rest).matKS = s.matKS := rfl
@[simp] theorem State.refuseWord_datapath (rest : List Word) : (s.refuseWord rest).datapath = s.datapath := rfl
@[simp] theorem State.refuseWord_pendingXform (rest : List Word) : (s.refuseWord rest).pendingXform = s.pendingXform := rfl
@[simp] theorem State.refuseWord_freeIx (rest : List Word) : (s.refuseWord rest).freeIx = s.freeIx := rfl

@[simp] theorem State.awaitMessage_cmd (len : Word) (done : Nat) : (s.awaitMessage len done).cmd = s.cmd := rfl
@[simp] theorem State.awaitMessage_din (len : Word) (done : Nat) : (s.awaitMessage len done).din = s.din := rfl
@[simp] theorem State.awaitMessage_dout (len : Word) (done : Nat) : (s.awaitMessage len done).dout = s.dout := rfl
@[simp] theorem State.awaitMessage_rsp (len : Word) (done : Nat) : (s.awaitMessage len done).rsp = s.rsp := rfl
@[simp] theorem State.awaitMessage_key (len : Word) (done : Nat) : (s.awaitMessage len done).key = s.key := rfl
@[simp] theorem State.awaitMessage_nonce (len : Word) (done : Nat) : (s.awaitMessage len done).nonce = s.nonce := rfl
@[simp] theorem State.awaitMessage_ctr (len : Word) (done : Nat) : (s.awaitMessage len done).ctr = s.ctr := rfl
@[simp] theorem State.awaitMessage_conf (len : Word) (done : Nat) : (s.awaitMessage len done).conf = s.conf := rfl
@[simp] theorem State.awaitMessage_matS (len : Word) (done : Nat) : (s.awaitMessage len done).matS = s.matS := rfl
@[simp] theorem State.awaitMessage_matX (len : Word) (done : Nat) : (s.awaitMessage len done).matX = s.matX := rfl
@[simp] theorem State.awaitMessage_matKS (len : Word) (done : Nat) : (s.awaitMessage len done).matKS = s.matKS := rfl
@[simp] theorem State.awaitMessage_datapath (len : Word) (done : Nat) : (s.awaitMessage len done).datapath = s.datapath := rfl
@[simp] theorem State.awaitMessage_pendingXform (len : Word) (done : Nat) : (s.awaitMessage len done).pendingXform = some ⟨len, done⟩ := rfl
@[simp] theorem State.awaitMessage_freeIx (len : Word) (done : Nat) : (s.awaitMessage len done).freeIx = s.freeIx := rfl

@[simp] theorem State.messageArrived_cmd : (s.messageArrived).cmd = s.cmd := rfl
@[simp] theorem State.messageArrived_din : (s.messageArrived).din = s.din := rfl
@[simp] theorem State.messageArrived_dout : (s.messageArrived).dout = s.dout := rfl
@[simp] theorem State.messageArrived_rsp : (s.messageArrived).rsp = s.rsp := rfl
@[simp] theorem State.messageArrived_key : (s.messageArrived).key = s.key := rfl
@[simp] theorem State.messageArrived_nonce : (s.messageArrived).nonce = s.nonce := rfl
@[simp] theorem State.messageArrived_ctr : (s.messageArrived).ctr = s.ctr := rfl
@[simp] theorem State.messageArrived_conf : (s.messageArrived).conf = s.conf := rfl
@[simp] theorem State.messageArrived_matS : (s.messageArrived).matS = s.matS := rfl
@[simp] theorem State.messageArrived_matX : (s.messageArrived).matX = s.matX := rfl
@[simp] theorem State.messageArrived_matKS : (s.messageArrived).matKS = s.matKS := rfl
@[simp] theorem State.messageArrived_datapath : (s.messageArrived).datapath = s.datapath := rfl
@[simp] theorem State.messageArrived_pendingXform : (s.messageArrived).pendingXform = none := rfl
@[simp] theorem State.messageArrived_freeIx : (s.messageArrived).freeIx = s.freeIx := rfl

@[simp] theorem State.loadEngine_cmd (k : Key) (c : Word) (n : Nonce) : (s.loadEngine k c n).cmd = s.cmd := rfl
@[simp] theorem State.loadEngine_din (k : Key) (c : Word) (n : Nonce) : (s.loadEngine k c n).din = s.din := rfl
@[simp] theorem State.loadEngine_dout (k : Key) (c : Word) (n : Nonce) : (s.loadEngine k c n).dout = s.dout := rfl
@[simp] theorem State.loadEngine_rsp (k : Key) (c : Word) (n : Nonce) : (s.loadEngine k c n).rsp = s.rsp := rfl
@[simp] theorem State.loadEngine_key (k : Key) (c : Word) (n : Nonce) : (s.loadEngine k c n).key = k := rfl
@[simp] theorem State.loadEngine_nonce (k : Key) (c : Word) (n : Nonce) : (s.loadEngine k c n).nonce = n := rfl
@[simp] theorem State.loadEngine_ctr (k : Key) (c : Word) (n : Nonce) : (s.loadEngine k c n).ctr = c := rfl
@[simp] theorem State.loadEngine_conf (k : Key) (c : Word) (n : Nonce) : (s.loadEngine k c n).conf = true := rfl
@[simp] theorem State.loadEngine_matS (k : Key) (c : Word) (n : Nonce) : (s.loadEngine k c n).matS = initState k c n := rfl
@[simp] theorem State.loadEngine_matX (k : Key) (c : Word) (n : Nonce) : (s.loadEngine k c n).matX = s.matX := rfl
@[simp] theorem State.loadEngine_matKS (k : Key) (c : Word) (n : Nonce) : (s.loadEngine k c n).matKS = s.matKS := rfl
@[simp] theorem State.loadEngine_datapath (k : Key) (c : Word) (n : Nonce) : (s.loadEngine k c n).datapath = s.datapath := rfl
@[simp] theorem State.loadEngine_pendingXform (k : Key) (c : Word) (n : Nonce) : (s.loadEngine k c n).pendingXform = s.pendingXform := rfl
@[simp] theorem State.loadEngine_freeIx (k : Key) (c : Word) (n : Nonce) : (s.loadEngine k c n).freeIx = s.freeIx := rfl

@[simp] theorem State.advance_cmd (n : Word) : (s.advance n).cmd = s.cmd := rfl
@[simp] theorem State.advance_din (n : Word) : (s.advance n).din = s.din := rfl
@[simp] theorem State.advance_dout (n : Word) : (s.advance n).dout = s.dout := rfl
@[simp] theorem State.advance_rsp (n : Word) : (s.advance n).rsp = s.rsp := rfl
@[simp] theorem State.advance_key (n : Word) : (s.advance n).key = s.key := rfl
@[simp] theorem State.advance_nonce (n : Word) : (s.advance n).nonce = s.nonce := rfl
@[simp] theorem State.advance_ctr (n : Word) : (s.advance n).ctr = s.ctr + n := rfl
@[simp] theorem State.advance_conf (n : Word) : (s.advance n).conf = s.conf := rfl
@[simp] theorem State.advance_matS (n : Word) : (s.advance n).matS = initState s.key (s.ctr + n) s.nonce := rfl
@[simp] theorem State.advance_matX (n : Word) : (s.advance n).matX = s.matX := rfl
@[simp] theorem State.advance_matKS (n : Word) : (s.advance n).matKS = s.matKS := rfl
@[simp] theorem State.advance_datapath (n : Word) : (s.advance n).datapath = s.datapath := rfl
@[simp] theorem State.advance_pendingXform (n : Word) : (s.advance n).pendingXform = s.pendingXform := rfl
@[simp] theorem State.advance_freeIx (n : Word) : (s.advance n).freeIx = s.freeIx := rfl

@[simp] theorem State.wipeRegisters_cmd : (s.wipeRegisters).cmd = s.cmd := rfl
@[simp] theorem State.wipeRegisters_din : (s.wipeRegisters).din = s.din := rfl
@[simp] theorem State.wipeRegisters_dout : (s.wipeRegisters).dout = s.dout := rfl
@[simp] theorem State.wipeRegisters_rsp : (s.wipeRegisters).rsp = s.rsp := rfl
@[simp] theorem State.wipeRegisters_key : (s.wipeRegisters).key = .zero := rfl
@[simp] theorem State.wipeRegisters_nonce : (s.wipeRegisters).nonce = .zero := rfl
@[simp] theorem State.wipeRegisters_ctr : (s.wipeRegisters).ctr = 0 := rfl
@[simp] theorem State.wipeRegisters_conf : (s.wipeRegisters).conf = false := rfl
@[simp] theorem State.wipeRegisters_matS : (s.wipeRegisters).matS = .zero := rfl
@[simp] theorem State.wipeRegisters_matX : (s.wipeRegisters).matX = .zero := rfl
@[simp] theorem State.wipeRegisters_matKS : (s.wipeRegisters).matKS = .zero := rfl
@[simp] theorem State.wipeRegisters_datapath : (s.wipeRegisters).datapath = .zeroOf s.engine := rfl
@[simp] theorem State.wipeRegisters_pendingXform : (s.wipeRegisters).pendingXform = s.pendingXform := rfl
@[simp] theorem State.wipeRegisters_freeIx : (s.wipeRegisters).freeIx = s.freeIx := rfl

@[simp] theorem State.forgetWork_cmd : (s.forgetWork).cmd = s.cmd := rfl
@[simp] theorem State.forgetWork_din : (s.forgetWork).din = s.din := rfl
@[simp] theorem State.forgetWork_dout : (s.forgetWork).dout = s.dout := rfl
@[simp] theorem State.forgetWork_rsp : (s.forgetWork).rsp = s.rsp := rfl
@[simp] theorem State.forgetWork_key : (s.forgetWork).key = s.key := rfl
@[simp] theorem State.forgetWork_nonce : (s.forgetWork).nonce = s.nonce := rfl
@[simp] theorem State.forgetWork_ctr : (s.forgetWork).ctr = s.ctr := rfl
@[simp] theorem State.forgetWork_conf : (s.forgetWork).conf = s.conf := rfl
@[simp] theorem State.forgetWork_matS : (s.forgetWork).matS = s.matS := rfl
@[simp] theorem State.forgetWork_matX : (s.forgetWork).matX = freeMatrix s.freeIx := rfl
@[simp] theorem State.forgetWork_matKS : (s.forgetWork).matKS = freeMatrix (s.freeIx + 16) := rfl
@[simp] theorem State.forgetWork_datapath : (s.forgetWork).datapath = s.datapath.forget (s.freeIx + 32) := rfl
@[simp] theorem State.forgetWork_pendingXform : (s.forgetWork).pendingXform = s.pendingXform := rfl
@[simp] theorem State.forgetWork_freeIx : (s.forgetWork).freeIx = s.freeIx + 64 := rfl

@[simp] theorem State.hostWriteCmd_cmd (ws : List Word) : (s.hostWriteCmd ws).cmd = s.cmd ++ ws := rfl
@[simp] theorem State.hostWriteCmd_din (ws : List Word) : (s.hostWriteCmd ws).din = s.din := rfl
@[simp] theorem State.hostWriteCmd_dout (ws : List Word) : (s.hostWriteCmd ws).dout = s.dout := rfl
@[simp] theorem State.hostWriteCmd_rsp (ws : List Word) : (s.hostWriteCmd ws).rsp = s.rsp := rfl
@[simp] theorem State.hostWriteCmd_key (ws : List Word) : (s.hostWriteCmd ws).key = s.key := rfl
@[simp] theorem State.hostWriteCmd_nonce (ws : List Word) : (s.hostWriteCmd ws).nonce = s.nonce := rfl
@[simp] theorem State.hostWriteCmd_ctr (ws : List Word) : (s.hostWriteCmd ws).ctr = s.ctr := rfl
@[simp] theorem State.hostWriteCmd_conf (ws : List Word) : (s.hostWriteCmd ws).conf = s.conf := rfl
@[simp] theorem State.hostWriteCmd_matS (ws : List Word) : (s.hostWriteCmd ws).matS = s.matS := rfl
@[simp] theorem State.hostWriteCmd_matX (ws : List Word) : (s.hostWriteCmd ws).matX = s.matX := rfl
@[simp] theorem State.hostWriteCmd_matKS (ws : List Word) : (s.hostWriteCmd ws).matKS = s.matKS := rfl
@[simp] theorem State.hostWriteCmd_datapath (ws : List Word) : (s.hostWriteCmd ws).datapath = s.datapath := rfl
@[simp] theorem State.hostWriteCmd_pendingXform (ws : List Word) : (s.hostWriteCmd ws).pendingXform = s.pendingXform := rfl
@[simp] theorem State.hostWriteCmd_freeIx (ws : List Word) : (s.hostWriteCmd ws).freeIx = s.freeIx := rfl

@[simp] theorem State.hostWriteDin_cmd (bs : List Byte) : (s.hostWriteDin bs).cmd = s.cmd := rfl
@[simp] theorem State.hostWriteDin_din (bs : List Byte) : (s.hostWriteDin bs).din = s.din ++ bs := rfl
@[simp] theorem State.hostWriteDin_dout (bs : List Byte) : (s.hostWriteDin bs).dout = s.dout := rfl
@[simp] theorem State.hostWriteDin_rsp (bs : List Byte) : (s.hostWriteDin bs).rsp = s.rsp := rfl
@[simp] theorem State.hostWriteDin_key (bs : List Byte) : (s.hostWriteDin bs).key = s.key := rfl
@[simp] theorem State.hostWriteDin_nonce (bs : List Byte) : (s.hostWriteDin bs).nonce = s.nonce := rfl
@[simp] theorem State.hostWriteDin_ctr (bs : List Byte) : (s.hostWriteDin bs).ctr = s.ctr := rfl
@[simp] theorem State.hostWriteDin_conf (bs : List Byte) : (s.hostWriteDin bs).conf = s.conf := rfl
@[simp] theorem State.hostWriteDin_matS (bs : List Byte) : (s.hostWriteDin bs).matS = s.matS := rfl
@[simp] theorem State.hostWriteDin_matX (bs : List Byte) : (s.hostWriteDin bs).matX = s.matX := rfl
@[simp] theorem State.hostWriteDin_matKS (bs : List Byte) : (s.hostWriteDin bs).matKS = s.matKS := rfl
@[simp] theorem State.hostWriteDin_datapath (bs : List Byte) : (s.hostWriteDin bs).datapath = s.datapath := rfl
@[simp] theorem State.hostWriteDin_pendingXform (bs : List Byte) : (s.hostWriteDin bs).pendingXform = s.pendingXform := rfl
@[simp] theorem State.hostWriteDin_freeIx (bs : List Byte) : (s.hostWriteDin bs).freeIx = s.freeIx := rfl

/-! ### `ENGINE` is never written (R9) -/

@[simp] theorem Datapath.engine_zeroOf (e : Engine) (s : State) (h : s.datapath = .zeroOf e) : s.engine = e := by
  cases e <;> simp_all [State.engine, Datapath.zeroOf]

@[simp] theorem State.cmdConsumed_engine (rest : List Word) : (s.cmdConsumed rest).engine = s.engine := rfl
@[simp] theorem State.dinConsumed_engine (n : Nat) : (s.dinConsumed n).engine = s.engine := rfl
@[simp] theorem State.doutWrite_engine (bs : List Byte) : (s.doutWrite bs).engine = s.engine := rfl
@[simp] theorem State.rspWrite_engine (w : Word) : (s.rspWrite w).engine = s.engine := rfl
@[simp] theorem State.finish_engine : (s.finish).engine = s.engine := rfl
@[simp] theorem State.raiseError_engine (err : ErrCode) : (s.raiseError err).engine = s.engine := rfl
@[simp] theorem State.refuseWord_engine (rest : List Word) : (s.refuseWord rest).engine = s.engine := rfl
@[simp] theorem State.awaitMessage_engine (len : Word) (done : Nat) : (s.awaitMessage len done).engine = s.engine := rfl
@[simp] theorem State.messageArrived_engine : (s.messageArrived).engine = s.engine := rfl
@[simp] theorem State.loadEngine_engine (k : Key) (c : Word) (n : Nonce) : (s.loadEngine k c n).engine = s.engine := rfl
@[simp] theorem State.advance_engine (n : Word) : (s.advance n).engine = s.engine := rfl
@[simp] theorem State.wipeRegisters_engine : (s.wipeRegisters).engine = s.engine := Datapath.engine_zeroOf s.engine _ rfl
@[simp] theorem State.forgetWork_engine : (s.forgetWork).engine = s.engine := by
  cases h : s.datapath <;> simp [State.engine, Datapath.forget, h]
@[simp] theorem State.hostWriteCmd_engine (ws : List Word) : (s.hostWriteCmd ws).engine = s.engine := rfl
@[simp] theorem State.hostWriteDin_engine (bs : List Byte) : (s.hostWriteDin bs).engine = s.engine := rfl

@[simp] theorem State.resetFor_engine (e : Engine) : (State.resetFor e).engine = e := Datapath.engine_zeroOf e _ rfl

@[simp] theorem State.reset_engine : State.reset.engine = Config.engine := State.resetFor_engine _

/-! ### `forgetWorkAfter` touches the working registers and the free-value index only -/

@[simp] theorem State.forgetWorkAfter_cmd (n : Nat) : (s.forgetWorkAfter n).cmd = s.cmd := by cases n <;> rfl
@[simp] theorem State.forgetWorkAfter_din (n : Nat) : (s.forgetWorkAfter n).din = s.din := by cases n <;> rfl
@[simp] theorem State.forgetWorkAfter_dout (n : Nat) : (s.forgetWorkAfter n).dout = s.dout := by cases n <;> rfl
@[simp] theorem State.forgetWorkAfter_rsp (n : Nat) : (s.forgetWorkAfter n).rsp = s.rsp := by cases n <;> rfl
@[simp] theorem State.forgetWorkAfter_key (n : Nat) : (s.forgetWorkAfter n).key = s.key := by cases n <;> rfl
@[simp] theorem State.forgetWorkAfter_nonce (n : Nat) : (s.forgetWorkAfter n).nonce = s.nonce := by cases n <;> rfl
@[simp] theorem State.forgetWorkAfter_ctr (n : Nat) : (s.forgetWorkAfter n).ctr = s.ctr := by cases n <;> rfl
@[simp] theorem State.forgetWorkAfter_conf (n : Nat) : (s.forgetWorkAfter n).conf = s.conf := by cases n <;> rfl
@[simp] theorem State.forgetWorkAfter_matS (n : Nat) : (s.forgetWorkAfter n).matS = s.matS := by cases n <;> rfl
@[simp] theorem State.forgetWorkAfter_pendingXform (n : Nat) : (s.forgetWorkAfter n).pendingXform = s.pendingXform := by cases n <;> rfl
@[simp] theorem State.forgetWorkAfter_engine (n : Nat) : (s.forgetWorkAfter n).engine = s.engine := by
  cases n
  · rfl
  · exact State.forgetWork_engine s

@[simp] theorem State.forgetWorkAfter_zero : s.forgetWorkAfter 0 = s := rfl

/-! ### `transferBytes` touches DIN and DOUT only -/

@[simp] theorem State.transferBytes_din (done m : Nat) : (s.transferBytes done m).din = s.din.drop m := by
  unfold State.transferBytes; split <;> rfl
@[simp] theorem State.transferBytes_cmd (done m : Nat) : (s.transferBytes done m).cmd = s.cmd := by
  unfold State.transferBytes; split <;> rfl
@[simp] theorem State.transferBytes_rsp (done m : Nat) : (s.transferBytes done m).rsp = s.rsp := by
  unfold State.transferBytes; split <;> rfl
@[simp] theorem State.transferBytes_key (done m : Nat) : (s.transferBytes done m).key = s.key := by
  unfold State.transferBytes; split <;> rfl
@[simp] theorem State.transferBytes_nonce (done m : Nat) : (s.transferBytes done m).nonce = s.nonce := by
  unfold State.transferBytes; split <;> rfl
@[simp] theorem State.transferBytes_ctr (done m : Nat) : (s.transferBytes done m).ctr = s.ctr := by
  unfold State.transferBytes; split <;> rfl
@[simp] theorem State.transferBytes_conf (done m : Nat) : (s.transferBytes done m).conf = s.conf := by
  unfold State.transferBytes; split <;> rfl
@[simp] theorem State.transferBytes_matS (done m : Nat) : (s.transferBytes done m).matS = s.matS := by
  unfold State.transferBytes; split <;> rfl
@[simp] theorem State.transferBytes_matX (done m : Nat) : (s.transferBytes done m).matX = s.matX := by
  unfold State.transferBytes; split <;> rfl
@[simp] theorem State.transferBytes_matKS (done m : Nat) : (s.transferBytes done m).matKS = s.matKS := by
  unfold State.transferBytes; split <;> rfl
@[simp] theorem State.transferBytes_datapath (done m : Nat) : (s.transferBytes done m).datapath = s.datapath := by
  unfold State.transferBytes; split <;> rfl
@[simp] theorem State.transferBytes_pendingXform (done m : Nat) : (s.transferBytes done m).pendingXform = s.pendingXform := by
  unfold State.transferBytes; split <;> rfl
@[simp] theorem State.transferBytes_freeIx (done m : Nat) : (s.transferBytes done m).freeIx = s.freeIx := by
  unfold State.transferBytes; split <;> rfl
@[simp] theorem State.transferBytes_engine (done m : Nat) : (s.transferBytes done m).engine = s.engine := by
  unfold State.transferBytes; split <;> rfl

end Sys2Proof.Machine
end

