-- ==== Sys2Proof/Laws/Ops.lean ====
section
/-! SUPPORT. For each shared operation, once, everything it can do. -/

namespace Sys2Proof.Machine

/-! ### Operands -/

@[simp] theorem keyOfWords_toList (k : Key) : keyOfWords k.toList = some k := rfl

@[simp] theorem nonceOfWords_toList (n : Nonce) : nonceOfWords n.toList = some n := rfl

@[simp] theorem Key.length_toList (k : Key) : k.toList.length = 8 := rfl

@[simp] theorem Nonce.length_toList (n : Nonce) : n.toList.length = 3 := rfl

theorem keyOfWords_eq_some {ws : List Word} {k : Key} (h : keyOfWords ws = some k) : ws = k.toList := by
  unfold keyOfWords at h
  split at h
  · cases h; rfl
  · cases h

theorem nonceOfWords_eq_some {ws : List Word} {n : Nonce} (h : nonceOfWords ws = some n) : ws = n.toList := by
  unfold nonceOfWords at h
  split at h
  · cases h; rfl
  · cases h

theorem keyOfWords_eq_none {ws : List Word} : keyOfWords ws = none ↔ ws.length ≠ 8 := by
  constructor
  · intro h hl
    match ws, hl with
    | [_, _, _, _, _, _, _, _], _ => cases h
  · intro h
    cases hk : keyOfWords ws with
    | none => rfl
    | some k => rw [keyOfWords_eq_some hk] at h; exact absurd k.length_toList h

theorem nonceOfWords_eq_none {ws : List Word} : nonceOfWords ws = none ↔ ws.length ≠ 3 := by
  constructor
  · intro h hl
    match ws, hl with
    | [_, _, _], _ => cases h
  · intro h
    cases hn : nonceOfWords ws with
    | none => rfl
    | some n => rw [nonceOfWords_eq_some hn] at h; exact absurd n.length_toList h

/-- `ceilDiv` by 64 is the least number of 64-byte chunks that hold the message (R14, R95). -/
theorem ceilDiv_le_iff (a q : Nat) : ceilDiv a 64 ≤ q ↔ a ≤ q * 64 := by
  unfold ceilDiv; omega

/-! ### Serialization -/

@[simp] theorem wordBytes_length (w : Word) : (wordBytes w).length = 4 := rfl

@[simp] theorem serialize_length (m : WordMatrix) : (serialize m).length = 64 := by
  simp [serialize, WordMatrix.toList]

@[simp] theorem keystreamBytes_length (k : Key) (c : Word) (n : Nonce) : (keystreamBytes k c n).length = 64 :=
  serialize_length _

@[simp] theorem dualBytes_length (k : Key) (c : Word) (n : Nonce) : (dualBytes k c n).length = 128 := by
  simp [dualBytes]

theorem xorBytes_length (msg ks : List Byte) : (xorBytes msg ks).length = min msg.length ks.length := by
  simp [xorBytes]

/-! ### Keystream and transform -/

@[simp] theorem keystreamScalar_length (k : Key) (nonce : Nonce) (c : Word) (n : Nat) :
    (keystreamScalar k nonce c n).length = 64 * n := by
  induction n generalizing c with
  | zero => rfl
  | succ n ih => simp only [keystreamScalar, List.length_append, keystreamBytes_length, ih]; omega

theorem keystreamDual_lengths (k : Key) (nonce : Nonce) (n : Nat) :
    ∀ c, (keystreamDual k nonce c n).length = 64 * n ∧ (keystreamDual k nonce c (n + 1)).length = 64 * (n + 1) := by
  induction n with
  | zero => exact fun c => ⟨rfl, keystreamBytes_length k c nonce⟩
  | succ n ih =>
    refine fun c => ⟨(ih c).2, ?_⟩
    simp only [keystreamDual, List.length_append, dualBytes_length, (ih (c + 2)).1]
    omega

@[simp] theorem keystreamRun_length (e : Engine) (k : Key) (nonce : Nonce) (c : Word) (n : Nat) :
    (keystreamRun e k nonce c n).length = 64 * n := by
  cases e
  · exact keystreamScalar_length k nonce c n
  · exact (keystreamDual_lengths k nonce n c).1

/-- The keystream always suffices: as many bytes out as in (R94). -/
@[simp] theorem transformFrom_length (e : Engine) (k : Key) (nonce : Nonce) (c : Word) (done : Nat) (msg : List Byte) :
    (transformFrom e k nonce c done msg).length = msg.length := by
  simp only [transformFrom, xorBytes_length, List.length_drop, keystreamRun_length, ceilDiv]
  omega

/-! ### The port primitive that can wait -/

theorem State.dinReady_le (s : State) (n : Nat) : s.dinReady n ≤ n ∧ s.dinReady n ≤ s.din.length :=
  ⟨Nat.min_le_left .., Nat.min_le_right ..⟩

/-! ### The meanings, case by case -/

theorem execInit_of_counts (k : Key) (c : Word) (n : Nonce) (s : State) :
    execInit k.toList c n.toList s = .next (s.loadEngine k c n).finish := rfl

theorem execInit_of_bad_key {key : List Word} (h : key.length ≠ 8) (c : Word) (nonce : List Word) (s : State) :
    execInit key c nonce s = .next (s.raiseError .invalidLength) := by
  simp [execInit, keyOfWords_eq_none.mpr h]

theorem execInit_of_bad_nonce {nonce : List Word} (h : nonce.length ≠ 3) (key : List Word) (c : Word) (s : State) :
    execInit key c nonce s = .next (s.raiseError .invalidLength) := by
  unfold execInit
  rw [nonceOfWords_eq_none.mpr h]
  cases keyOfWords key <;> rfl

/-- An XFORM whose message is short takes what is there and waits. -/
theorem State.xformFrom_of_short {s : State} {len : Word} {done : Nat} (h : done + s.din.length < len.toNat) :
    s.xformFrom len done = (s.transferBytes done s.din.length).awaitMessage len (done + s.din.length) := by
  have hr : s.dinReady (len.toNat - done) = s.din.length := by unfold State.dinReady; omega
  rw [State.xformFrom, hr, if_pos h]

/-- An XFORM whose message is there takes it all and completes. -/
theorem State.xformFrom_of_enough {s : State} {len : Word} {done : Nat} (h : len.toNat ≤ done + s.din.length) :
    s.xformFrom len done = (s.transferBytes done (len.toNat - done)).completeXform len := by
  have hr : s.dinReady (len.toNat - done) = len.toNat - done := by unfold State.dinReady; omega
  rw [State.xformFrom, hr, if_neg (by omega)]

theorem State.transferBytes_of_configured {s : State} (h : s.conf = true) (done m : Nat) :
    s.transferBytes done m =
      (s.dinConsumed m).doutWrite (transformFrom s.engine s.key s.nonce s.ctr done (s.din.take m)) := by
  simp [State.transferBytes, h]

theorem State.transferBytes_of_unconfigured {s : State} (h : s.conf = false) (done m : Nat) :
    s.transferBytes done m = s.dinConsumed m := by
  simp [State.transferBytes, h]

theorem State.completeXform_of_configured {s : State} (h : s.conf = true) (len : Word) :
    s.completeXform len =
      ((s.messageArrived.forgetWorkAfter (chunkCount len)).advance (BitVec.ofNat 32 (chunkCount len))).finish := by
  simp [State.completeXform, h]

theorem State.completeXform_of_unconfigured {s : State} (h : s.conf = false) (len : Word) :
    s.completeXform len = s.messageArrived.raiseError .notConfigured := by
  simp [State.completeXform, h]

theorem State.emitKeystream_of_unconfigured {s : State} (h : s.conf = false) (bs : List Byte) (n : Word) :
    s.emitKeystream bs n = s.raiseError .notConfigured := by
  simp [State.emitKeystream, h]

theorem State.emitKeystream_of_configured {s : State} (h : s.conf = true) (bs : List Byte) (n : Word) :
    s.emitKeystream bs n = ((s.doutWrite bs).forgetWork.advance n).finish := by
  simp [State.emitKeystream, h]

/-! ### The step, case by case -/

theorem step_of_pending {s : State} {p : XformProgress} (h : s.pendingXform = some p) : step s = resumeXform p s := by
  simp [step, h]

theorem step_of_incomplete {s : State} (hp : s.pendingXform = none) (h : s.fetch = .incomplete) : step s = .next s := by
  simp [step, hp, h]

theorem step_of_illegal {s : State} {why : IllegalReason} {rest : List Word} (hp : s.pendingXform = none)
    (h : s.fetch = .illegal why rest) : step s = .next (s.refuseWord rest) := by
  simp [step, hp, h]

end Sys2Proof.Machine
end

