-- ==== Sys2Proof/Laws/PerInstr.lean ====
section
/-! SUPPORT. Statements about every instruction as syntax, one lemma per constructor. -/

/-- The encoding of a well-formed instruction is as long as its own first word says (R61). -/
def Sys2Proof.Laws.EncodingLength.Statement (i : Sys2Proof.Instr) : Prop :=
  i.WellFormed → (Sys2Proof.encode i).length = Sys2Proof.commandLength ((Sys2Proof.encode i).headD 0)

namespace Sys2Proof.Laws.EncodingLength

theorem init (key : List Word) (ctr : Word) (nonce : List Word) : Statement (.init key ctr nonce) := by
  intro ⟨hk, hn⟩
  have hk : key.length ≤ 15 := of_decide_eq_true hk
  have hn : nonce.length ≤ 15 := of_decide_eq_true hn
  simp only [encode, List.headD_cons, commandLength, selectOp_initWord, klenField_initWord, nlenField_initWord,
    BitVec.toNat_ofNat, List.length_cons, List.length_append]
  omega

theorem xform (len : Word) : Statement (.xform len) := by
  intro _
  simp [encode, commandLength, selectOp_xformWord]

theorem block : Statement .block := by
  intro _
  simp [encode, commandLength, selectOp_blockWord]

theorem block2 : Statement .block2 := by
  intro _
  simp [encode, commandLength, selectOp_block2Word]

theorem rdctr : Statement .rdctr := by
  intro _
  simp [encode, commandLength, selectOp_rdctrWord]

theorem wipe : Statement .wipe := by
  intro _
  simp [encode, commandLength, selectOp_wipeWord]

end Sys2Proof.Laws.EncodingLength
end

