-- ==== Sys2Proof/Tests/Slice0.lean ====
section
/-! SUPPORT. Tests of the model. Every expected value comes from spec/95_test_vectors.md or from the encoding tables of
spec/30_encoding.md, named beside the test. The second half holds one witness for each obligation that has hypotheses: a
concrete state and operands that meet them. -/

namespace Sys2Proof.Tests

open Sys2Proof.Machine

/-! ### Helpers -/

/-- The outcome is a next state with this property. -/
def nextHas (o : Host.Outcome State Fault Refusal) (p : State → Bool) : Bool :=
  match o with
  | .next s => p s
  | .fault _ => false
  | .refused _ => false

/-- `K1` of 95_test_vectors.md. -/
def key1 : Key :=
  ⟨0x00010203, 0x04050607, 0x08090a0b, 0x0c0d0e0f, 0x10111213, 0x14151617, 0x18191a1b, 0x1c1d1e1f⟩

/-- `N1` of 95_test_vectors.md. -/
def nonce1 : Nonce := ⟨0x00000000, 0x0000004a, 0x00000000⟩

/-- A configured core with empty queues. -/
def configured (e : Engine) (k : Key) (c : Word) (n : Nonce) : State :=
  { State.resetFor e with key := k, nonce := n, ctr := c, conf := true, matS := initState k c n }

/-- The same core with words on CMD and bytes on DIN. -/
def fed (s : State) (ws : List Word) (bs : List Byte) : State := { s with cmd := ws, din := bs }

/-- `n` zero bytes. -/
def zeros (n : Nat) : List Byte := List.replicate n 0

/-- The plaintext of section 1.1. -/
def sunscreen : List Byte :=
  ("Ladies and Gentlemen of the class of '99: If I could offer you only one tip for the future, sunscreen would be it.".toList).map
    fun c => BitVec.ofNat 8 c.toNat

/-! ### Well-formedness: what the check refuses -/

theorem test_wf_refuses_sixteen_key_words :
    (Instr.init (List.replicate 16 0) 0 []).keyCountFits = false := by decide

theorem test_wf_refuses_sixteen_nonce_words :
    (Instr.init [] 0 (List.replicate 16 0)).nonceCountFits = false := by decide

theorem test_wf_refuses_the_whole_term :
    ¬ (Instr.init (List.replicate 16 0) 0 []).WellFormed ∧ ¬ (Instr.init [] 0 (List.replicate 16 0)).WellFormed := by
  decide

theorem test_wf_accepts_the_largest_counts :
    (Instr.init (List.replicate 15 0) 0 (List.replicate 15 0)).WellFormed := by decide

/-! ### Decoding, from the words of R55 and R56: `RSVD ++ NLEN ++ KLEN ++ OPC` -/

theorem test_decode_init :
    decode ((0b0000000000000000#16 ++ 0b0011#4 ++ 0b1000#4 ++ 0b00000001#8) ::
        [1, 2, 3, 4, 5, 6, 7, 8, 9, 10, 11, 12, 13]) =
      .command (.init [1, 2, 3, 4, 5, 6, 7, 8] 9 [10, 11, 12]) [13] := by decide

theorem test_decode_init_unequal_counts :
    decode ((0b0000000000000000#16 ++ 0b0001#4 ++ 0b0010#4 ++ 0b00000001#8) :: [1, 2, 3, 4, 5]) =
      .command (.init [1, 2] 3 [4]) [5] := by decide

theorem test_decode_xform :
    decode [0b0000000000000000#16 ++ 0b0000#4 ++ 0b0000#4 ++ 0b00000010#8, 0x80000041, 3] =
      .command (.xform 0x80000041) [3] := by decide

theorem test_decode_block :
    decode [0b0000000000000000#16 ++ 0b0000#4 ++ 0b0000#4 ++ 0b00000011#8, 5] = .command .block [5] := by decide

theorem test_decode_block2 :
    decode [0b0000000000000000#16 ++ 0b0000#4 ++ 0b0000#4 ++ 0b00000100#8, 5] = .command .block2 [5] := by decide

theorem test_decode_rdctr :
    decode [0b0000000000000000#16 ++ 0b0000#4 ++ 0b0000#4 ++ 0b00000101#8, 5] = .command .rdctr [5] := by decide

theorem test_decode_wipe :
    decode [0b0000000000000000#16 ++ 0b0000#4 ++ 0b0000#4 ++ 0b00000110#8, 5] = .command .wipe [5] := by decide

/-- Section 2.8: `KLEN = 0, NLEN = 0` reads one operand word, `KLEN = 15, NLEN = 15` reads 31, and `KLEN = 7` reads 11. -/
theorem test_decode_init_lengths :
    decode [0x00000001, 7, 9] = .command (.init [] 7 []) [9] ∧
      decode (0x0000ff01 :: List.replicate 31 0 ++ [9]) =
        .command (.init (List.replicate 15 0) 0 (List.replicate 15 0)) [9] ∧
      decode (0x0000ff01 :: List.replicate 30 0) = .incomplete ∧
      decode (0x00003701 :: List.replicate 11 0 ++ [9]) =
        .command (.init (List.replicate 7 0) 0 (List.replicate 3 0)) [9] := by decide

/-- Section 2.8's first table, with the clause of R63 that makes each word illegal. -/
theorem test_decode_illegal_words :
    decode [0x00000000, 5] = .illegal .unknownOpcode [5] ∧ decode [0x00000007, 5] = .illegal .unknownOpcode [5] ∧
      decode [0x000000ff, 5] = .illegal .unknownOpcode [5] ∧ decode [0x00000010, 5] = .illegal .unknownOpcode [5] ∧
      decode [0x00010002, 5] = .illegal .reservedBitsSet [5] ∧
      decode [0x80000001, 5] = .illegal .reservedBitsSet [5] ∧
      decode [0x00000102, 5] = .illegal .lengthFieldSet [5] ∧
      decode [0x00001003, 5] = .illegal .lengthFieldSet [5] ∧
      decode [0x000038ff, 5] = .illegal .unknownOpcode [5] ∧
      decode [0x00003802, 5] = .illegal .lengthFieldSet [5] := by decide

theorem test_decode_incomplete : decode [] = .incomplete ∧ decode [0x00000002] = .incomplete := by decide

/-- The masks and patterns of R57 cannot both select one word: no two rows of the table overlap. -/
theorem test_opcode_rows_disjoint :
    opTable.Pairwise fun a b => (a.pattern ^^^ b.pattern) &&& (a.mask &&& b.mask) ≠ 0 := by decide

/-! ### The table's bit numbering and the host's first step -/

theorem test_table_words :
    decodeTableWord 32 0x00003801 = some (.init (List.replicate 8 0) 0 (List.replicate 3 0)) ∧
      decodeTableWord 64 0x0000000500000002 = some (.xform 5) ∧ decodeTableWord 32 0x00000002 = some (.xform 0) ∧
      decodeTableWord 32 0x00000003 = some .block ∧ decodeTableWord 32 0x00000004 = some .block2 ∧
      decodeTableWord 32 0x00000005 = some .rdctr ∧ decodeTableWord 32 0x00000006 = some .wipe ∧
      decodeTableWord 32 0x00000007 = none := by decide

/-- The very next step runs the placed instruction and consumes exactly it. -/
theorem test_fetch_word_runs_next :
    nextHas (step ((State.resetFor .scalar).withFetchWord 32 0x00003801))
        (fun t => t.cmd == [] && t.conf && t.rsp == [0x100]) = true ∧
      nextHas (step ((State.resetFor .dual).withFetchWord 64 0x0000000300000002))
        (fun t => t.cmd == [] && t.din == [] && t.rsp == [0x203] && t.pendingXform == none) = true := by decide

theorem test_fetch_word_from_reset :
    nextHas (step (State.reset.withFetchWord 32 0x00000005)) (fun t => t.cmd == [] && t.rsp.drop 1 == [0]) = true := by
  decide

/-! ### The datapath -/

/-- Section 2.1. -/
theorem test_bswap32 :
    bswap32 0x00000000 = 0x00000000 ∧ bswap32 0xffffffff = 0xffffffff ∧ bswap32 0x00010203 = 0x03020100 ∧
      bswap32 0x12345678 = 0x78563412 ∧ bswap32 0x0000004a = 0x4a000000 ∧ bswap32 0x80000000 = 0x00000080 := by decide

/-- Section 2.2. -/
theorem test_init_state :
    initState key1 1 nonce1 =
        ⟨0x61707865, 0x3320646e, 0x79622d32, 0x6b206574, 0x03020100, 0x07060504, 0x0b0a0908, 0x0f0e0d0c,
         0x13121110, 0x17161514, 0x1b1a1918, 0x1f1e1d1c, 0x00000001, 0x00000000, 0x4a000000, 0x00000000⟩ ∧
      (initState .zero 0xffffffff .zero).w12 = 0xffffffff := by decide

/-- Section 2.3, addition and rotation. -/
theorem test_add_and_rotl :
    (0xffffffff : Word) + 0x00000001 = 0x00000000 ∧ (0x80000000 : Word) + 0x80000000 = 0x00000000 ∧
      rotl 0x80000000 7 = 0x00000040 ∧ rotl 0x12345678 16 = 0x56781234 ∧ rotl 0x00000001 12 = 0x00001000 ∧
      rotl 0xff000000 8 = 0x000000ff ∧ rotl 0x00000001 7 = 0x00000080 ∧ rotl 0xdeadbeef 8 = 0xadbeefde ∧
      rotl 0xffffffff 12 = 0xffffffff := by decide

/-- Section 2.3, the quarter round. -/
theorem test_quarter_round :
    quarterRound 0x11111111 0x01020304 0x9b8d6f43 0x01234567 = (0xea2a92f4, 0xcb1cf8ce, 0x4581472e, 0x5881c4bb) ∧
      quarterRound 0 0 0 0 = (0, 0, 0, 0) ∧
      quarterRound 0xffffffff 0xffffffff 0xffffffff 0xffffffff =
        (0xf0000ffd, 0x88790878, 0x0110fdef, 0x010ffdf0) ∧
      quarterRound 0xffffffff 1 0 0 = (0x00001000, 0x08080000, 0x00100000, 0x00100000) ∧
      quarterRound 1 0 0 0 = (0x10000001, 0x80808808, 0x01010110, 0x01000110) ∧
      quarterRound 0 0 0 1 = (0x10000000, 0x80800808, 0x01010010, 0x01000010) := by decide

/-- Section 2.4. -/
theorem test_double_round :
    doubleRound (initState .zero 0 .zero) =
      ⟨0xe45fd249, 0x1bb820a6, 0xe31a88ea, 0xe667a9fe, 0x2a3bf673, 0x86bf4098, 0x460b500a, 0xfa169886,
       0x538dca0e, 0x0c439641, 0x00fa16bc, 0x8a08812a, 0x6bbf8b09, 0xc33013d6, 0xbb9f9849, 0x87c62165⟩ := by
  decide +kernel

/-- Section 2.4, row 0 of the permutation. -/
theorem test_permute_row0 :
    (permute (initState .zero 0 .zero)).toList.take 4 = [0x4c704011, 0x5d1d8d32, 0x6c08300e, 0xbd9d20df] := by
  decide +kernel

/-- Section 1.2, the words and the first bytes of the all-zero block. -/
theorem test_zero_block :
    keystreamBlock .zero 0 .zero =
        ⟨0xade0b876, 0x903df1a0, 0xe56a5d40, 0x28bd8653, 0xb819d2bd, 0x1aed8da0, 0xccef36a8, 0xc70d778b,
         0x7c5941da, 0x8d485751, 0x3fe02477, 0x374ad8b8, 0xf4b8436a, 0x1ca11815, 0x69b687c3, 0x8665eeb2⟩ ∧
      (keystreamBytes .zero 0 .zero).take 8 = [0x76, 0xb8, 0xe0, 0xad, 0xa0, 0xf1, 0x3d, 0x90] := by decide +kernel

/-- Section 2.5, the block of key `K1`, counter 1 and nonce `N2`. -/
theorem test_block_key1_nonce2 :
    keystreamBlock key1 1 ⟨0x00000009, 0x0000004a, 0x00000000⟩ =
      ⟨0xe4e7f110, 0x15593bd1, 0x1fdd0f50, 0xc47120a3, 0xc7f4d1c7, 0x0368c033, 0x9aaa2204, 0x4e6cd4c3,
       0x466482d2, 0x09aa9f07, 0x05d7c214, 0xa2028bd9, 0xd19c12b5, 0xb94e16de, 0xe883d0cb, 0x4e3c50a2⟩ := by
  decide +kernel

/-- Section 2.7, the lane permutation. -/
theorem test_lane_permutation :
    Lanes.rotateGroups ⟨0, 1, 2, 3, 10, 11, 12, 13⟩ 1 = ⟨1, 2, 3, 0, 11, 12, 13, 10⟩ ∧
      Lanes.rotateGroups ⟨0, 1, 2, 3, 10, 11, 12, 13⟩ 2 = ⟨2, 3, 0, 1, 12, 13, 10, 11⟩ ∧
      Lanes.rotateGroups ⟨0, 1, 2, 3, 10, 11, 12, 13⟩ 3 = ⟨3, 0, 1, 2, 13, 10, 11, 12⟩ := by decide

/-- Section 2.7, both halves of one dual pass at the counter wrap. -/
theorem test_dual_pass_at_the_wrap :
    (dualBytes key1 0xffffffff nonce1).take 8 = [0x6d, 0x29, 0xda, 0x5b, 0xd1, 0x6a, 0x47, 0x29] ∧
      ((dualBytes key1 0xffffffff nonce1).drop 64).take 8 = [0xaf, 0x05, 0x1e, 0x40, 0xbb, 0xa0, 0x35, 0x49] := by
  decide +kernel

/-! ### One step of each command -/

/-- R74's example. -/
theorem test_init_loads :
    nextHas (exec (.init key1.toList 1 nonce1.toList) (State.resetFor .scalar))
      (fun t => t.conf && t.ctr == 1 && t.matS.w4 == 0x03020100 && t.matS.w12 == 1 && t.matS.w14 == 0x4a000000 &&
        t.rsp == [0x00000100]) = true := by decide

/-- Section 2.8: an INIT with `KLEN = 8, NLEN = 2` keeps the old configuration. -/
theorem test_init_short_nonce_keeps_configuration :
    nextHas (exec (.init key1.toList 5 [0, 0x4a]) (configured .dual .zero 1 .zero))
      (fun t => t.conf && t.ctr == 1 && t.key == .zero && t.rsp == [0x00000302]) = true := by decide

/-- Section 1.1 on the dual engine: the ciphertext's first and last bytes and the counter. -/
theorem test_xform_sunscreen :
    nextHas (exec (.xform 114) (fed (configured .dual key1 1 nonce1) [] sunscreen))
      (fun t => t.dout.length == 114 && t.dout.take 8 == [0x6e, 0x2e, 0x35, 0x9a, 0x25, 0x68, 0xf9, 0x80] &&
        t.dout.drop 108 == [0xf2, 0x78, 0x5e, 0x42, 0x87, 0x4d] && t.ctr == 3 && t.rsp == [0x00000300]) = true := by decide +kernel

/-- Section 2.6's wrap on the scalar engine: byte 64 is the first byte of the block for counter 0. -/
theorem test_xform_wraps :
    nextHas (exec (.xform 65) (fed (configured .scalar key1 0xffffffff nonce1) [] (zeros 65)))
      (fun t => t.dout.take 4 == [0x6d, 0x29, 0xda, 0x5b] && t.dout.drop 64 == [0xaf] && t.ctr == 1 && t.din == [] &&
        t.rsp == [0x00000100]) = true := by decide +kernel

/-- Section 2.5: BLOCK at `CTR = ffffffff`. -/
theorem test_block_wraps :
    nextHas (exec .block (configured .scalar .zero 0xffffffff .zero))
      (fun t => t.dout.take 8 == [0xac, 0xe4, 0xcd, 0x09, 0xe2, 0x94, 0xd1, 0x91] && t.dout.length == 64 && t.ctr == 0 &&
        t.rsp == [0x00000100]) = true := by decide +kernel

/-- Section 2.5: BLOCK after reset. -/
theorem test_block_unconfigured :
    nextHas (exec .block (State.resetFor .dual)) (fun t => t.dout == [] && t.ctr == 0 && t.rsp == [0x00000203]) = true := by
  decide

/-- Section 2.7: BLOCK2 at `CTR = fffffffe` on the dual engine. -/
theorem test_block2_dual :
    nextHas (exec .block2 (configured .dual .zero 0xfffffffe .zero))
      (fun t => t.dout.take 8 == [0x03, 0x2c, 0xc1, 0x23, 0x48, 0x2c, 0x31, 0x71] &&
        (t.dout.drop 64).take 8 == [0xac, 0xe4, 0xcd, 0x09, 0xe2, 0x94, 0xd1, 0x91] && t.ctr == 0 &&
        t.rsp == [0x00000300]) = true := by decide +kernel

/-- Section 2.7: BLOCK2 works on the scalar engine too. -/
theorem test_block2_scalar :
    nextHas (exec .block2 (configured .scalar key1 0 nonce1))
      (fun t => t.dout.take 4 == [0xaf, 0x05, 0x1e, 0x40] && (t.dout.drop 64).take 4 == [0x22, 0x4f, 0x51, 0xf3] &&
        t.ctr == 2 && t.rsp == [0x00000100]) = true := by decide +kernel

/-- Section 2.9. -/
theorem test_rdctr :
    nextHas (exec .rdctr (configured .scalar key1 3 nonce1)) (fun t => t.rsp == [0x00000100, 0x00000003]) = true ∧
      nextHas (exec .rdctr (State.resetFor .dual)) (fun t => t.rsp == [0x00000200, 0x00000000]) = true := by decide

/-- Section 2.9. -/
theorem test_wipe :
    nextHas (exec .wipe (configured .dual key1 3 nonce1))
      (fun t => t == { State.resetFor .dual with rsp := [0x00000200] }) = true := by decide

/-! ### Steps that run no command -/

/-- Section 2.8: the word after an illegal one is decoded as a command word. -/
theorem test_illegal_word_step :
    nextHas (step (fed (State.resetFor .scalar) [0x00000102, 0x00000005] [1]))
      (fun t => t == { fed (State.resetFor .scalar) [0x00000005] [1] with rsp := [0x00000001] }) = true := by decide

/-- R139: XFORM 3 with two bytes reads them and waits, and R137: reset abandons it. -/
theorem test_xform_waits_and_reset_abandons :
    nextHas (step (fed (State.resetFor .scalar) [0x00000002, 3, 5] [1, 2]))
      (fun t => t.pendingXform == some ⟨3, 2⟩ && t.cmd == [5] && t.din == [] && t.rsp == [] && t.hostReset == State.resetFor .scalar) =
        true := by decide

/-- Section 2.6: XFORM 65 that has read 63 bytes goes on inside the first block (its byte 63 is `b7`, after it `69`). -/
theorem test_xform_resumes_inside_a_block :
    nextHas (step ((fed (configured .dual key1 1 nonce1) [] [0, 0]).awaitMessage 65 63))
      (fun t => t.dout == [0xb7, 0x69] && t.ctr == 3 && t.pendingXform == none && t.rsp == [0x00000300]) = true := by
  decide +kernel

/-! ### The assembler and the order of transfers -/

/-- R66, R67: INIT.HEX reads the hex bytes big-endian; the words are those of P1. -/
theorem test_init_hex :
    (PseudoLine.initHex ((List.range 32).map (BitVec.ofNat 8)) 1 [0, 0, 0, 0, 0, 0, 0, 0x4a, 0, 0, 0, 0]).expand.cmdWords =
      [0x00003801, 0x00010203, 0x04050607, 0x08090a0b, 0x0c0d0e0f, 0x10111213, 0x14151617, 0x18191a1b, 0x1c1d1e1f,
       0x00000001, 0x00000000, 0x0000004a, 0x00000000] := by decide

/-- The CMD words of P2. -/
theorem test_assemble_p2 :
    assembleCmd [.init .zero 0xffffffff .zero, .block2, .rdctr, .block, .rdctr] =
      0x00003801 :: (List.replicate 8 0 ++ [0xffffffff, 0, 0, 0, 4, 5, 3, 5]) := by decide

/-- R93 on an unconfigured core: the length word and the message are read, then one status word. -/
theorem test_transfers_unconfigured_xform :
    transfers (.xform 2) (fed (State.resetFor .scalar) [2, 2] [7, 8, 9]) =
      [.cmdRead 2, .cmdRead 2, .dinRead 7, .dinRead 8, .rspWrite 3] := by decide

/-! ### Witnesses: states and operands that meet the hypotheses of the obligations -/

/-- `DecodeOfEncodeGivesTheInstruction`: the smallest and the largest counts. -/
theorem witness_decode_of_encode :
    (Instr.init [] 0 []).WellFormed ∧ (Instr.init (List.replicate 15 1) 0 (List.replicate 15 2)).WellFormed ∧
      (Instr.xform 0xffffffff).WellFormed := by decide

/-- `DecodedCommandsAreExactlyEncodings`. -/
theorem witness_decoded_commands :
    decode (0x0000ff01 :: List.replicate 32 0) =
        .command (.init (List.replicate 15 0) 0 (List.replicate 15 0)) [0] ∧
      decode [0x00000001, 5] = .command (.init [] 5 []) [] ∧ decode [2, 0xffffffff] = .command (.xform 0xffffffff) [] := by
  decide

/-- `CommandWordSelectsByMaskAndMatch`: both sides of each equivalence hold of a word. -/
theorem witness_command_word_selects :
    (0x0000ff01#32 &&& 0xFFFF00FF#32 = 0x00000001#32) ∧ selectOp 0x0000ff01 = some .init ∧ selectOp 2 = some .xform ∧
      selectOp 3 = some .block ∧ selectOp 4 = some .block2 ∧ selectOp 5 = some .rdctr ∧ selectOp 6 = some .wipe := by
  decide

/-- `IllegalWordIsConsumedAloneAndReported`: each clause of R63 at its boundary values. -/
theorem witness_illegal_words :
    (Spec.IsIllegal 0 ∧ Spec.IsIllegal 7 ∧ Spec.IsIllegal 0xff) ∧
      (Spec.IsIllegal 0x00010001 ∧ Spec.IsIllegal 0x80000006) ∧
      (Spec.IsIllegal 0x00000102 ∧ Spec.IsIllegal 0x00001006) ∧
      (¬ Spec.IsIllegal 1 ∧ ¬ Spec.IsIllegal 6 ∧ ¬ Spec.IsIllegal 0x0000ff01) := by
  unfold Spec.IsIllegal
  refine ⟨⟨?_, ?_, ?_⟩, ⟨?_, ?_⟩, ⟨?_, ?_⟩, ?_, ?_, ?_⟩ <;> decide

/-- `IllegalWordIsConsumedAloneAndReported`, `EveryCommandWritesOneStatusWord`: a state with an illegal word. -/
theorem witness_illegal_state :
    (fed (State.resetFor .dual) [7, 5] []).pendingXform = none ∧
      (fed (State.resetFor .dual) [7, 5] []).cmd = 7 :: [5] ∧
      Spec.IsIllegal 7 ∧ ∃ t, step (fed (State.resetFor .dual) [7, 5] []) = .next t :=
  ⟨rfl, rfl, by unfold Spec.IsIllegal; decide, _, rfl⟩

/-- `InitReadsAllItsOperandsInOrder`: counts 8 and 3, 0 and 0, 15 and 15. -/
theorem witness_init_operands :
    ((0x00003801#32 &&& 0xFFFF00FF#32 = 1#32) ∧ Spec.klen 0x00003801 = key1.toList.length ∧
        Spec.nlen 0x00003801 = nonce1.toList.length) ∧
      ((0x00000001#32 &&& 0xFFFF00FF#32 = 1#32) ∧ Spec.klen 0x00000001 = 0 ∧ Spec.nlen 0x00000001 = 0) ∧
      ((0x0000ff01#32 &&& 0xFFFF00FF#32 = 1#32) ∧ Spec.klen 0x0000ff01 = 15 ∧ Spec.nlen 0x0000ff01 = 15) ∧
      (fed (State.resetFor .scalar) (0x00003801 :: (key1.toList ++ 1 :: nonce1.toList ++ [5])) []).cmd =
        0x00003801 :: (key1.toList ++ 1 :: nonce1.toList ++ [5]) := by decide

/-- `CommandLengthIsKnownFromTheFirstWord`: a ready state for each command, and a word of each kind that is not ready. -/
theorem witness_ready :
    (fed (State.resetFor .dual) (0x00001101 :: [1, 2, 3, 4]) []).Ready (.init [1] 2 [3]) [4] ∧
      (fed (State.resetFor .dual) [2, 2, 4] [8, 9]).Ready (.xform 2) [4] ∧
      (fed (State.resetFor .dual) [3, 4] []).Ready .block [4] ∧
      (fed (State.resetFor .dual) [4] []).Ready .block2 [] ∧
      (fed (State.resetFor .dual) [5] []).Ready .rdctr [] ∧ (fed (State.resetFor .dual) [6] []).Ready .wipe [] := by
  unfold State.Ready
  decide

/-- `CommandLengthIsKnownFromTheFirstWord`, `MissingWordsLeaveTheCoreWaiting`: the last operand word is missing. -/
theorem witness_missing_words :
    (fed (State.resetFor .dual) [0x00001101, 1, 2] []).pendingXform = none ∧
      ([1, 2] : List Word).length + 1 < Spec.cmdLength 0x00001101 ∧
      decode [0x00001101, 1, 2] = .incomplete ∧ decode [2] = .incomplete ∧
      (State.resetFor .scalar).cmd = [] ∧ (State.resetFor .scalar).pendingXform = none := by decide

/-- `StepRunsTheDecodedCommand`: a decoded command, and a core stuck in an XFORM. -/
theorem witness_step :
    ((fed (State.resetFor .dual) [2, 2, 4] []).pendingXform = none ∧
        decode (fed (State.resetFor .dual) [2, 2, 4] []).cmd = .command (.xform 2) [4]) ∧
      ((State.resetFor .dual).awaitMessage 2 1).pendingXform = some ⟨2, 1⟩ := by decide

/-- `PortsOnlyConsumeAndAppend`, `EveryStepKeepsTheInvariant`: a step that consumes and appends. -/
theorem witness_step_answers_next :
    ∃ t, step (fed (configured .scalar key1 1 nonce1) [2, 1, 5] [9, 8]) = .next t := ⟨_, rfl⟩

/-- `InitOfWrongLengthWritesNoState`: both counts wrong one by one, and the largest that can be encoded. -/
theorem witness_init_of_wrong_length :
    ((key1.toList.take 7).length ≠ 8 ∨ nonce1.toList.length ≠ 3) ∧ (key1.toList.length ≠ 8 ∨ ([0, 1] : List Word).length ≠ 3) ∧
      ((List.replicate 15 (0 : Word)).length ≠ 8 ∧ (List.replicate 15 (0 : Word)).length ≤ 15) ∧
      (fed (State.resetFor .dual) (encode (.init (List.replicate 15 0) 0 (List.replicate 15 0)) ++ [5]) []).cmd =
        encode (.init (List.replicate 15 0) 0 (List.replicate 15 0)) ++ [5] ∧
      (fed (State.resetFor .dual) (encode (.init (List.replicate 15 0) 0 (List.replicate 15 0)) ++ [5]) []).pendingXform =
        none := by decide

/-- `StateMatrixSpellsKeyAndNonceBytes`. -/
theorem witness_key_and_nonce_bytes : (zeros 32).length = 32 ∧ (zeros 12).length = 12 := by decide

/-- `RotlIsTheCircularShift`: the boundary distances and bits. -/
theorem witness_rotl : (0 < 1 ∧ 1 < 32 ∧ 31 < 32) ∧ ((31 + 31) % 32 = 30 ∧ (0 + 1) % 32 = 1) := by decide

/-- `OrderInsideAPassDoesNotMatter`: another order of each pass, and a member of each. -/
theorem witness_pass_orders :
    Spec.columns.reverse.Perm Spec.columns ∧ Spec.diagonals.reverse.Perm Spec.diagonals ∧
      Spec.columns.reverse ≠ Spec.columns ∧ (3, 7, 11, 15) ∈ Spec.columns ∧ (3, 4, 9, 14) ∈ Spec.diagonals :=
  ⟨List.reverse_perm _, List.reverse_perm _, by decide, by decide, by decide⟩

/-- `BlockAddsTheOriginalMatrix`, `SerializationIsLittleEndian`: the last word and the last byte. -/
theorem witness_last_indexes : 15 < 16 ∧ 63 < 64 := by decide

/-- `BlockEmitsTheCurrentBlock`, `Block2EmitsTheNextTwoBlocks`, `Block2EqualsTwoBlocks`, `BlockEqualsXformOf64Zeros`: a
configured core of each engine, its counter about to wrap. -/
theorem witness_configured :
    (configured .scalar key1 0xffffffff nonce1).conf = true ∧ (configured .dual key1 0xffffffff nonce1).conf = true ∧
      (configured .dual key1 0xffffffff nonce1).engine = .dual := by decide

/-- `XformTransformsTheMessage`, `XformPreservesLength`, `UnconfiguredCoreEmitsNoKeystream`: the empty message, and one of 65
bytes that just suffice, with `CONF = 1` and with `CONF = 0`. -/
theorem witness_message_present :
    ((0 : Word).toNat ≤ (configured .scalar key1 1 nonce1).din.length ∧
        (65 : Word).toNat ≤ (fed (configured .dual key1 1 nonce1) [] (zeros 65)).din.length ∧
        (fed (configured .dual key1 1 nonce1) [] (zeros 65)).conf = true) ∧
      ((65 : Word).toNat ≤ (fed (State.resetFor .dual) [] (zeros 65)).din.length ∧
        (fed (State.resetFor .dual) [] (zeros 65)).conf = false) := by decide

/-- `XformUndoesItself`: two cores with different engines. -/
theorem witness_involution :
    (configured .scalar key1 7 nonce1).conf = true ∧ (configured .dual key1 7 nonce1).conf = true ∧
      (configured .scalar key1 7 nonce1).key = (configured .dual key1 7 nonce1).key ∧
      (configured .scalar key1 7 nonce1).nonce = (configured .dual key1 7 nonce1).nonce ∧
      (configured .scalar key1 7 nonce1).ctr = (configured .dual key1 7 nonce1).ctr ∧
      (zeros 65).length = (65 : Word).toNat := by decide

/-- `XformSplitsAtBlockBoundaries`: 64 bytes and one more; no first part; no second part. -/
theorem witness_split :
    (fed (configured .dual key1 1 nonce1) [] (zeros 65)).conf = true ∧
      ((64 : Word).toNat % 64 = 0 ∧ (64 : Word).toNat + (1 : Word).toNat < 2 ^ 32 ∧
        (64 : Word).toNat + (1 : Word).toNat ≤ (fed (configured .dual key1 1 nonce1) [] (zeros 65)).din.length) ∧
      ((0 : Word).toNat % 64 = 0 ∧ (0 : Word).toNat + (0xffffffff : Word).toNat < 2 ^ 32) := by decide

/-- `KeystreamPseudoCommandReturnsKeystream`. -/
theorem witness_keystream :
    (fed (configured .dual key1 1 nonce1) [2, 3, 5] [0, 0, 0, 7]).conf = true ∧
      (fed (configured .dual key1 1 nonce1) [2, 3, 5] [0, 0, 0, 7]).pendingXform = none ∧
      (fed (configured .dual key1 1 nonce1) [2, 3, 5] [0, 0, 0, 7]).cmd = (PseudoLine.keystream 3).expand.cmdWords ++ [5] ∧
      (fed (configured .dual key1 1 nonce1) [2, 3, 5] [0, 0, 0, 7]).din = (PseudoLine.keystream 3).expand.dinBytes ++ [7] := by
  decide

/-- `XformWaitsForItsMessage`, `WaitingXformHoldsNothingBack`, `MessageInPortionsIsMessageAtOnce`: an XFORM 3 that finds one
byte, configured and not, and one that is stuck after one byte and finds one more. -/
theorem witness_waiting :
    ((fed (State.resetFor .dual) [2, 3, 5] [1]).pendingXform = none ∧
        decode (fed (State.resetFor .dual) [2, 3, 5] [1]).cmd = .command (.xform 3) [5] ∧
        (fed (State.resetFor .dual) [2, 3, 5] [1]).din.length < (3 : Word).toNat) ∧
      (fed (configured .scalar key1 1 nonce1) [2, 3, 5] [1]).conf = true ∧
      (((fed (State.resetFor .dual) [5] [8]).awaitMessage 3 1).pendingXform = some ⟨3, 1⟩ ∧
        1 + ((fed (State.resetFor .dual) [5] [8]).awaitMessage 3 1).din.length < (3 : Word).toNat) := by decide

/-- `WaitingXformHoldsNothingBack`, `WaitingXformCompletes`: a configured and an unconfigured core stuck in an XFORM 3 after one
byte, with the two missing bytes there and no more, and one that is stuck after the first block. -/
theorem witness_waiting_completes :
    (((fed (configured .dual key1 1 nonce1) [5] [8, 9]).awaitMessage 3 1).pendingXform = some ⟨3, 1⟩ ∧
        (3 : Word).toNat ≤ 1 + ((fed (configured .dual key1 1 nonce1) [5] [8, 9]).awaitMessage 3 1).din.length ∧
        ((fed (configured .dual key1 1 nonce1) [5] [8, 9]).awaitMessage 3 1).conf = true) ∧
      (((fed (State.resetFor .scalar) [] [8, 9]).awaitMessage 3 1).pendingXform = some ⟨3, 1⟩ ∧
        (3 : Word).toNat ≤ 1 + ((fed (State.resetFor .scalar) [] [8, 9]).awaitMessage 3 1).din.length ∧
        ((fed (State.resetFor .scalar) [] [8, 9]).awaitMessage 3 1).conf = false) ∧
      ((65 : Word).toNat ≤ 64 + ((fed (configured .scalar key1 1 nonce1) [] [8]).awaitMessage 65 64).din.length) := by
  decide

/-- `DrainingOutputChangesNothingElse`: all of the output is drained in the middle of an XFORM. -/
theorem witness_draining :
    2 ≤ ({ (fed (configured .dual key1 1 nonce1) [] [8]).awaitMessage 3 1 with dout := [1, 2], rsp := [256] } : State).dout.length ∧
      1 ≤ ({ (fed (configured .dual key1 1 nonce1) [] [8]).awaitMessage 3 1 with dout := [1, 2], rsp := [256] } : State).rsp.length ∧
      ∃ t, step { (fed (configured .dual key1 1 nonce1) [] [8]).awaitMessage 3 1 with dout := [1, 2], rsp := [256] } =
        .next t := ⟨by decide, by decide, _, rfl⟩

/-- `EveryCommandWritesOneStatusWord`, `OnlyInitAndWipeWriteKeyNonceConf`, `CounterFollowsTheOutput`: each command answers a
next state on a core that has its operands. -/
theorem witness_every_command_answers_next :
    (∃ t, exec (.init key1.toList 1 nonce1.toList) (State.resetFor .scalar) = .next t) ∧
      (∃ t, exec (.xform 2) (fed (configured .dual key1 1 nonce1) [] [1, 2]) = .next t) ∧
      (∃ t, exec .block (configured .dual key1 1 nonce1) = .next t) ∧
      (∃ t, exec .block2 (configured .dual key1 1 nonce1) = .next t) ∧
      (∃ t, exec .rdctr (configured .dual key1 1 nonce1) = .next t) ∧
      (∃ t, exec .wipe (configured .dual key1 1 nonce1) = .next t) ∧
      (Instr.xform 2).messageLength ≤ (fed (configured .dual key1 1 nonce1) [] [1, 2]).din.length :=
  ⟨⟨_, rfl⟩, ⟨_, rfl⟩, ⟨_, rfl⟩, ⟨_, rfl⟩, ⟨_, rfl⟩, ⟨_, rfl⟩, by decide⟩

/-- `UnconfiguredCoreEmitsNoKeystream`: ready states with `CONF = 0`. -/
theorem witness_unconfigured :
    (fed (State.resetFor .dual) [3] []).conf = false ∧ (fed (State.resetFor .dual) [3] []).Ready .block [] ∧
      (fed (State.resetFor .dual) [4] []).Ready .block2 [] ∧
      (fed (State.resetFor .dual) [2, 3, 5] [1, 2, 3]).Ready (.xform 3) [5] := by
  unfold State.Ready
  decide

/-- `ErrorsWriteNoState`: a command for each error after decode. -/
theorem witness_errors :
    (State.resetFor .dual).pendingXform = none ∧ Spec.errorOf (.init (List.replicate 7 0) 0 [0, 0, 0]) true = 2 ∧
      Spec.errorOf (.init (List.replicate 8 0) 0 [0, 0]) false = 2 ∧ Spec.errorOf .block2 false = 3 ∧
      Spec.errorOf (.xform 3) false = 3 ∧
      (Instr.xform 3).messageLength ≤ (fed (State.resetFor .dual) [] [1, 2, 3]).din.length := by decide

/-- `EveryStepKeepsTheInvariant`: a configured and an unconfigured state with the invariant. -/
theorem witness_invariant :
    (configured .dual key1 1 nonce1).Inv ∧ (State.resetFor .scalar).Inv :=
  ⟨⟨fun _ => rfl, fun h => (nomatch h), fun _ h => (nomatch h)⟩,
    ⟨fun h => (nomatch h), fun _ => ⟨rfl, rfl, rfl, rfl⟩, fun _ h => (nomatch h)⟩⟩

/-- `ResetLeavesNothingBehind`: a state after reset in the middle of an XFORM, and a command to send it. -/
theorem witness_reset :
    (∃ s : State, State.resetFor .dual = s.hostReset ∧ s.pendingXform = some ⟨3, 2⟩) ∧
      decode [0x00000005] = .command .rdctr [] :=
  ⟨⟨(configured .dual key1 1 nonce1).awaitMessage 3 2, rfl, rfl⟩, rfl⟩

/-- `WorkingRegistersCarryNothing`: two states that differ in `X`. -/
theorem witness_same_but_work :
    SameButWork (fed (configured .dual key1 1 nonce1) [3] [])
        { fed (configured .dual key1 1 nonce1) [3] [] with matX := initState key1 1 nonce1 } ∧
      ∃ t, step (fed (configured .dual key1 1 nonce1) [3] []) = .next t :=
  ⟨⟨rfl, rfl, rfl, rfl, rfl, rfl, rfl, rfl, rfl, rfl, rfl⟩, _, rfl⟩

/-- `SecretsReachOnlyKeystreamBytes`: two configured states that differ in key, nonce and `S`; two unconfigured ones that
differ in `KS`. -/
theorem witness_same_but_secrets :
    SameButSecrets (fed (configured .scalar key1 1 nonce1) [3] []) (fed (configured .scalar .zero 1 .zero) [3] []) ∧
      (SameButSecrets (State.resetFor .dual) { State.resetFor .dual with matKS := initState key1 1 nonce1 } ∧
        (State.resetFor .dual).conf = false) ∧
      ∃ t, step (fed (configured .scalar key1 1 nonce1) [3] []) = .next t :=
  ⟨⟨rfl, rfl, rfl, rfl, rfl, rfl, rfl, rfl⟩, ⟨⟨rfl, rfl, rfl, rfl, rfl, rfl, rfl, rfl⟩, rfl⟩, _, rfl⟩

/-- `TransfersRefineTheAtomicCommand`. -/
theorem witness_transfers :
    (Instr.xform 2).WellFormed ∧
      (fed (configured .dual key1 1 nonce1) [2, 2, 5] [7, 8, 9]).cmd = encode (.xform 2) ++ [5] ∧
      (Instr.xform 2).messageLength ≤ (fed (configured .dual key1 1 nonce1) [2, 2, 5] [7, 8, 9]).din.length := by decide

/-- `XformReadsAtMostItsBlocksAhead`: one byte read and none written. -/
theorem witness_transfers_prefix :
    (fed (configured .dual key1 1 nonce1) [] [7]).conf = true ∧
      (1 : Word).toNat ≤ (fed (configured .dual key1 1 nonce1) [] [7]).din.length ∧
      [.cmdRead 2, .cmdRead 1, .dinRead 7] <+: transfers (.xform 1) (fed (configured .dual key1 1 nonce1) [] [7]) :=
  ⟨rfl, by decide, _, rfl⟩

end Sys2Proof.Tests
end

section
/-! SUPPORT. The dual-lane datapath computes what the scalar one computes (R104, R112), so that either engine generates
the same keystream (R101). -/

namespace Sys2Proof.Machine

/-- The matrix whose column `i` is `qi`. -/
def WordMatrix.ofColumns (q0 q1 q2 q3 : Word × Word × Word × Word) : WordMatrix :=
  ⟨q0.1, q1.1, q2.1, q3.1, q0.2.1, q1.2.1, q2.2.1, q3.2.1,
   q0.2.2.1, q1.2.2.1, q2.2.2.1, q3.2.2.1, q0.2.2.2, q1.2.2.2, q2.2.2.2, q3.2.2.2⟩

/-- Row `r` rotated by `r` places, so that the diagonals of R82 become the columns: what R109 does to each block. -/
def WordMatrix.diagonalsInColumns (m : WordMatrix) : WordMatrix :=
  ⟨m.w0, m.w1, m.w2, m.w3, m.w5, m.w6, m.w7, m.w4, m.w10, m.w11, m.w8, m.w9, m.w15, m.w12, m.w13, m.w14⟩

/-- The rows rotated back. -/
def WordMatrix.columnsInDiagonals (m : WordMatrix) : WordMatrix :=
  ⟨m.w0, m.w1, m.w2, m.w3, m.w7, m.w4, m.w5, m.w6, m.w10, m.w11, m.w8, m.w9, m.w13, m.w14, m.w15, m.w12⟩

theorem columnPass_eq_ofColumns (m : WordMatrix) :
    columnPass m = .ofColumns (quarterRound m.w0 m.w4 m.w8 m.w12) (quarterRound m.w1 m.w5 m.w9 m.w13)
      (quarterRound m.w2 m.w6 m.w10 m.w14) (quarterRound m.w3 m.w7 m.w11 m.w15) := by
  simp only [columnPass, WordMatrix.quarterRoundAt, WordMatrix.get, WordMatrix.set, WordMatrix.ofColumns]

theorem diagonalPass_eq_columnPass (m : WordMatrix) :
    diagonalPass m = (columnPass m.diagonalsInColumns).columnsInDiagonals := by
  rw [columnPass_eq_ofColumns]
  simp only [diagonalPass, WordMatrix.quarterRoundAt, WordMatrix.get, WordMatrix.set, WordMatrix.ofColumns,
    WordMatrix.diagonalsInColumns, WordMatrix.columnsInDiagonals]

/-- `VQR` runs one quarter round in every lane position (R108). -/
theorem vectorQuarterRound_eq_ofColumns (v : VRegs) :
    vectorQuarterRound v = loadLanes
      (.ofColumns (quarterRound v.v0.l0 v.v1.l0 v.v2.l0 v.v3.l0) (quarterRound v.v0.l1 v.v1.l1 v.v2.l1 v.v3.l1)
        (quarterRound v.v0.l2 v.v1.l2 v.v2.l2 v.v3.l2) (quarterRound v.v0.l3 v.v1.l3 v.v2.l3 v.v3.l3))
      (.ofColumns (quarterRound v.v0.l4 v.v1.l4 v.v2.l4 v.v3.l4) (quarterRound v.v0.l5 v.v1.l5 v.v2.l5 v.v3.l5)
        (quarterRound v.v0.l6 v.v1.l6 v.v2.l6 v.v3.l6) (quarterRound v.v0.l7 v.v1.l7 v.v2.l7 v.v3.l7)) := rfl

theorem vectorQuarterRound_loadLanes (a b : WordMatrix) :
    vectorQuarterRound (loadLanes a b) = loadLanes (columnPass a) (columnPass b) := by
  rw [columnPass_eq_ofColumns, columnPass_eq_ofColumns, vectorQuarterRound_eq_ofColumns]
  rfl

theorem diagonalsToColumns_loadLanes (a b : WordMatrix) :
    diagonalsToColumns (loadLanes a b) = loadLanes a.diagonalsInColumns b.diagonalsInColumns := rfl

theorem restoreLanes_loadLanes (a b : WordMatrix) :
    restoreLanes (loadLanes a b) = loadLanes a.columnsInDiagonals b.columnsInDiagonals := rfl

theorem vectorDoubleRound_loadLanes (a b : WordMatrix) :
    vectorDoubleRound (loadLanes a b) = loadLanes (doubleRound a) (doubleRound b) := by
  rw [doubleRound, doubleRound, diagonalPass_eq_columnPass, diagonalPass_eq_columnPass, vectorDoubleRound,
    vectorQuarterRound_loadLanes, diagonalsToColumns_loadLanes, vectorQuarterRound_loadLanes, restoreLanes_loadLanes]

theorem vectorDoubleRounds_loadLanes (n : Nat) (a b : WordMatrix) :
    vectorDoubleRounds n (loadLanes a b) = loadLanes (doubleRounds n a) (doubleRounds n b) := by
  induction n generalizing a b with
  | zero => rfl
  | succ n ih => rw [vectorDoubleRounds, vectorDoubleRound_loadLanes, ih, doubleRounds, doubleRounds]

/-- The feed-forward of the lanes is that of the two matrices (R87, R111). -/
theorem add_loadLanes (a b a' b' : WordMatrix) :
    (loadLanes a b).add (loadLanes a' b') = loadLanes (a.add a') (b.add b') := rfl

theorem dualPass_eq_loadLanes (k : Key) (c : Word) (n : Nonce) :
    dualPass k c n = loadLanes (keystreamBlock k c n) (keystreamBlock k (c + 1) n) := by
  rw [dualPass, vectorDoubleRounds_loadLanes, add_loadLanes, keystreamBlock, keystreamBlock, blockFn, blockFn,
    permute, permute]

theorem dualBlocks_eq_keystreamBlocks (k : Key) (c : Word) (n : Nonce) :
    dualBlocks k c n = (keystreamBlock k c n, keystreamBlock k (c + 1) n) := by
  rw [dualBlocks, dualPass_eq_loadLanes, VRegs.block0, VRegs.block1]
  rfl

theorem dualBytes_eq_keystreamBytes (k : Key) (c : Word) (n : Nonce) :
    dualBytes k c n = keystreamBytes k c n ++ keystreamBytes k (c + 1) n := by
  rw [dualBytes, dualBlocks_eq_keystreamBlocks, keystreamBytes, keystreamBytes]

theorem pairBytes_eq_keystreamBytes (e : Engine) (k : Key) (c : Word) (n : Nonce) :
    pairBytes e k c n = keystreamBytes k c n ++ keystreamBytes k (c + 1) n := by
  cases e
  case scalar => rfl
  case dual => exact dualBytes_eq_keystreamBytes k c n

theorem keystreamDual_eq_keystreamScalar (k : Key) (nonce : Nonce) (c : Word) (n : Nat) :
    keystreamDual k nonce c n = keystreamScalar k nonce c n := by
  induction c, n using keystreamDual.induct with
  | case1 c => rfl
  | case2 c => simp [keystreamDual, keystreamScalar]
  | case3 c n ih =>
    have hc : c + 1 + 1 = c + 2 := by rw [BitVec.add_assoc]; rfl
    rw [keystreamDual, ih, dualBytes_eq_keystreamBytes, keystreamScalar, keystreamScalar, hc, List.append_assoc]

/-- Either engine generates the same keystream (R101). -/
theorem keystreamRun_eq_keystreamScalar (e : Engine) (k : Key) (nonce : Nonce) (c : Word) (n : Nat) :
    keystreamRun e k nonce c n = keystreamScalar k nonce c n := by
  cases e
  case scalar => rfl
  case dual => exact keystreamDual_eq_keystreamScalar k nonce c n

end Sys2Proof.Machine
end

section
/-! SUPPORT. The output of XFORM, byte by byte (R93, R97). -/

namespace Sys2Proof.Machine

/-- Byte `j` of the keystream that starts at block `q` is byte `64q + j` of the whole keystream. -/
theorem keystreamByte_add_blocks (k : Key) (c : Word) (n : Nonce) (q j : Nat) :
    Spec.keystreamByte k (c + BitVec.ofNat 32 q) n j = Spec.keystreamByte k c n (64 * q + j) := by
  have hdiv : (64 * q + j) / 64 = q + j / 64 := by omega
  have hmod : (64 * q + j) % 64 = j % 64 := by omega
  rw [Spec.keystreamByte, Spec.keystreamByte, hdiv, hmod, BitVec.ofNat_add, BitVec.add_assoc]

/-- Bytes 0 to 63 are those of the first block. -/
theorem keystreamBytes_getElem? (k : Key) (c : Word) (n : Nonce) (j : Nat) (h : j < 64) :
    (keystreamBytes k c n)[j]? = some (Spec.keystreamByte k c n j) := by
  have hj : j < (keystreamBytes k c n).length := by rwa [keystreamBytes_length]
  simp [Spec.keystreamByte, Nat.div_eq_of_lt h, Nat.mod_eq_of_lt h, List.getElem?_eq_getElem hj]

theorem keystreamScalar_getElem? (k : Key) (nonce : Nonce) (c : Word) (n j : Nat) (h : j < 64 * n) :
    (keystreamScalar k nonce c n)[j]? = some (Spec.keystreamByte k c nonce j) := by
  induction n generalizing c j with
  | zero => omega
  | succ n ih =>
    rw [keystreamScalar, List.getElem?_append, keystreamBytes_length]
    split
    case isTrue hj => exact keystreamBytes_getElem? k c nonce j hj
    case isFalse hj =>
      have hj' : 64 * 1 + (j - 64) = j := by omega
      have hnext := keystreamByte_add_blocks k c nonce 1 (j - 64)
      rw [hj'] at hnext
      exact (ih (c + 1) (j - 64) (by omega)).trans (congrArg some hnext)

/-- On either engine, message byte `j` of the portion after the first `done` bytes meets keystream byte `done + j`. -/
theorem transformFrom_eq_mapIdx (e : Engine) (k : Key) (nonce : Nonce) (c : Word) (done : Nat) (msg : List Byte) :
    transformFrom e k nonce c done msg = msg.mapIdx fun j b => b ^^^ Spec.keystreamByte k c nonce (done + j) := by
  apply List.ext_getElem (by simp)
  intro j hj _
  rw [transformFrom_length] at hj
  have hks := keystreamScalar_getElem? k nonce (c + BitVec.ofNat 32 (done / 64))
    (ceilDiv (done % 64 + msg.length) 64) (done % 64 + j) (by unfold ceilDiv; omega)
  rw [keystreamByte_add_blocks, show 64 * (done / 64) + (done % 64 + j) = done + j by omega] at hks
  obtain ⟨_, hget⟩ := List.getElem?_eq_some_iff.mp hks
  simp [transformFrom, xorBytes, keystreamRun_eq_keystreamScalar, hget]

/-- A message transformed in two portions is the message transformed at once. -/
theorem transformFrom_append (e : Engine) (k : Key) (nonce : Nonce) (c : Word) (done : Nat) (xs ys : List Byte) :
    transformFrom e k nonce c done (xs ++ ys) =
      transformFrom e k nonce c done xs ++ transformFrom e k nonce c (done + xs.length) ys := by
  have hshift (j : Nat) : done + (j + xs.length) = done + xs.length + j := by omega
  simp [transformFrom_eq_mapIdx, List.mapIdx_append, hshift]

end Sys2Proof.Machine
end

section
/-! SUPPORT. What a step does with a command, what an error reports, and how a portion of a message goes through (R16,
R17, R139). -/

namespace Sys2Proof.Machine

theorem step_of_command {s : State} {i : Instr} {rest : List Word} (hp : s.pendingXform = none)
    (h : s.fetch = .command i rest) : step s = exec i (s.cmdConsumed rest) := by
  simp [step, hp, h]

/-- The status word is the sum of R31's table. -/
theorem statusWord_eq_status (err : ErrCode) (conf : Bool) (e : Engine) :
    statusWord err conf e = Spec.status err.code.toNat conf e := by
  cases err <;> cases conf <;> cases e <;> rfl

theorem State.raiseError_eq_status (s : State) (err : ErrCode) :
    s.raiseError err = { s with rsp := s.rsp ++ [Spec.status err.code.toNat s.conf s.engine] } := by
  rw [State.raiseError, statusWord_eq_status, State.rspWrite]

theorem State.messageArrived_of_idle {s : State} (h : s.pendingXform = none) : s.messageArrived = s := by
  rw [State.messageArrived, ← h]

/-- With a count other than R74's, of key words or of nonce words, INIT reports it (R121). -/
theorem execInit_of_bad_counts {key nonce : List Word} (h : ¬(key.length = 8 ∧ nonce.length = 3)) (c : Word)
    (s : State) : execInit key c nonce s = .next (s.raiseError .invalidLength) := by
  by_cases hk : key.length = 8
  · exact execInit_of_bad_nonce (fun hn => h ⟨hk, hn⟩) key c s
  · exact execInit_of_bad_key hk c nonce s

/-- An unconfigured XFORM with its message there consumes it and reports (R122). -/
theorem State.xformFrom_of_unconfigured {s : State} {len : Word} (hc : s.conf = false)
    (hlen : len.toNat ≤ s.din.length) :
    s.xformFrom len 0 = (s.dinConsumed len.toNat).messageArrived.raiseError .notConfigured := by
  have henough : len.toNat ≤ 0 + s.din.length := by omega
  rw [xformFrom_of_enough henough, transferBytes_of_unconfigured hc, Nat.sub_zero,
    completeXform_of_unconfigured (s := s.dinConsumed _) hc]

theorem State.dinConsumed_dinConsumed (s : State) (m n : Nat) :
    (s.dinConsumed m).dinConsumed n = s.dinConsumed (m + n) := by
  simp [State.dinConsumed]

theorem State.doutWrite_doutWrite (s : State) (xs ys : List Byte) :
    (s.doutWrite xs).doutWrite ys = s.doutWrite (xs ++ ys) := by
  simp [State.doutWrite]

theorem State.dinConsumed_doutWrite (s : State) (n : Nat) (xs : List Byte) :
    (s.doutWrite xs).dinConsumed n = (s.dinConsumed n).doutWrite xs := rfl

theorem State.dinConsumed_hostWriteDin {s : State} {m : Nat} (h : m ≤ s.din.length) (bs : List Byte) :
    (s.hostWriteDin bs).dinConsumed m = (s.dinConsumed m).hostWriteDin bs := by
  rw [State.dinConsumed, State.hostWriteDin_din, List.drop_append_of_le_length h]
  rfl

/-- What is there goes through, and what follows goes through after it: the same bytes, in the same order. -/
theorem State.transferBytes_transferBytes {s : State} {m : Nat} (h : m ≤ s.din.length) (done n : Nat) :
    (s.transferBytes done m).transferBytes (done + m) n = s.transferBytes done (m + n) := by
  cases hc : s.conf
  case false =>
    rw [transferBytes_of_unconfigured hc, transferBytes_of_unconfigured hc,
      transferBytes_of_unconfigured (s := s.dinConsumed m) hc, dinConsumed_dinConsumed]
  case true =>
    have hm : (s.din.take m).length = m := List.length_take_of_le h
    have hbytes : transformFrom s.engine s.key s.nonce s.ctr done (s.din.take m) ++
        transformFrom s.engine s.key s.nonce s.ctr (done + m) ((s.din.drop m).take n) =
          transformFrom s.engine s.key s.nonce s.ctr done (s.din.take (m + n)) := by
      rw [List.take_add, transformFrom_append, hm]
    rw [transferBytes_of_configured hc, transferBytes_of_configured hc, transferBytes_of_configured (by simpa using hc),
      dinConsumed_doutWrite, dinConsumed_dinConsumed, doutWrite_doutWrite, ← hbytes]
    rfl

theorem State.transferBytes_hostWriteDin {s : State} {m : Nat} (h : m ≤ s.din.length) (done : Nat) (bs : List Byte) :
    (s.hostWriteDin bs).transferBytes done m = (s.transferBytes done m).hostWriteDin bs := by
  cases hc : s.conf
  case false =>
    rw [transferBytes_of_unconfigured hc, transferBytes_of_unconfigured (s := s.hostWriteDin bs) hc,
      dinConsumed_hostWriteDin h]
  case true =>
    rw [transferBytes_of_configured hc, transferBytes_of_configured (s := s.hostWriteDin bs) hc,
      dinConsumed_hostWriteDin h, hostWriteDin_din, List.take_append_of_le_length h]
    rfl

theorem State.transferBytes_awaitMessage (s : State) (len : Word) (q done m : Nat) :
    (s.awaitMessage len q).transferBytes done m = (s.transferBytes done m).awaitMessage len q := by
  cases hc : s.conf
  case false =>
    rw [transferBytes_of_unconfigured hc, transferBytes_of_unconfigured (s := s.awaitMessage len q) hc]
    rfl
  case true =>
    rw [transferBytes_of_configured hc, transferBytes_of_configured (s := s.awaitMessage len q) hc]
    rfl

/-- `pendingXform` is overwritten, not read, by an XFORM that goes on. -/
theorem State.xformFrom_awaitMessage (s : State) (len len' : Word) (q done : Nat) :
    (s.awaitMessage len' q).xformFrom len done = s.xformFrom len done := by
  unfold State.xformFrom
  rw [State.transferBytes_awaitMessage]
  rfl

/-- An XFORM that has let some of its message through goes on to where it comes without a stop there. -/
theorem State.xformFrom_transferBytes (s : State) (len : Word) (done m : Nat) (hm : m ≤ s.din.length)
    (hlen : done + m < len.toNat) :
    (s.transferBytes done m).xformFrom len (done + m) = s.xformFrom len done := by
  have hdin : (s.transferBytes done m).din.length = s.din.length - m := by simp
  by_cases hshort : done + s.din.length < len.toNat
  · rw [xformFrom_of_short hshort, xformFrom_of_short (by omega), hdin, transferBytes_transferBytes hm,
      show m + (s.din.length - m) = s.din.length by omega,
      show done + m + (s.din.length - m) = done + s.din.length by omega]
  · rw [xformFrom_of_enough (Nat.le_of_not_lt hshort), xformFrom_of_enough (by omega),
      transferBytes_transferBytes hm, show m + (len.toNat - (done + m)) = len.toNat - done by omega]

/-- A core stuck in an XFORM, given `bs`, comes to where it comes when `bs` is there from the start. -/
theorem step_hostWriteDin_xformFrom (s : State) (len : Word) (done : Nat) (bs : List Byte)
    (h : done + s.din.length < len.toNat) :
    step ((s.xformFrom len done).hostWriteDin bs) = .next ((s.hostWriteDin bs).xformFrom len done) := by
  have hstuck : (s.xformFrom len done).hostWriteDin bs =
      ((s.hostWriteDin bs).transferBytes done s.din.length).awaitMessage len (done + s.din.length) := by
    rw [State.xformFrom_of_short h, State.transferBytes_hostWriteDin (Nat.le_refl _)]
    rfl
  rw [hstuck, step_of_pending rfl, resumeXform, State.xformFrom_awaitMessage,
    State.xformFrom_transferBytes _ _ _ _ (by simp) h]

end Sys2Proof.Machine
end

section
/-! PROOF. A message in portions. -/

namespace Sys2Proof.Machine

/-- Settles O34: an XFORM, whether it begins now or is stuck, goes from either start through `xformFrom`. -/
theorem messageInPortionsIsMessageAtOnce : Obligations.MessageInPortionsIsMessageAtOnce := by
  rintro s bs (⟨len, rest, hp, hcmd, hshort⟩ | ⟨p, hp, hshort⟩)
  case inl =>
    refine ⟨(s.cmdConsumed rest).xformFrom len 0, step_of_command hp hcmd, ?_⟩
    rw [step_hostWriteDin_xformFrom _ _ _ _ (by simpa using hshort), step_of_command (s := s.hostWriteDin bs) hp hcmd]
    rfl
  case inr =>
    refine ⟨s.xformFrom p.len p.done, step_of_pending hp, ?_⟩
    rw [step_hostWriteDin_xformFrom _ _ _ _ hshort, step_of_pending (s := s.hostWriteDin bs) hp, resumeXform]

end Sys2Proof.Machine
end

section
/-! PROOF. Errors write no state. -/

namespace Sys2Proof.Machine

/-- Settles O40, one case for each command that can report an error after decode. -/
theorem errorsWriteNoState : Obligations.ErrorsWriteNoState := by
  intro i s hp hlen herr
  cases i with
  | init key c nonce =>
    have hcounts : ¬(key.length = 8 ∧ nonce.length = 3) := fun h => herr (if_pos h)
    have hcode : Spec.errorOf (.init key c nonce) s.conf = 2 := if_neg hcounts
    rw [hcode, exec, execInit_of_bad_counts hcounts, State.raiseError_eq_status]
    rfl
  | xform len =>
    have hc : s.conf = false := by simpa [Spec.errorOf] using herr
    rw [exec, execXform, State.xformFrom_of_unconfigured hc hlen,
      State.messageArrived_of_idle (s := s.dinConsumed _) hp, State.raiseError_eq_status, State.dinConsumed_conf, hc]
    rfl
  | block =>
    have hc : s.conf = false := by simpa [Spec.errorOf] using herr
    rw [exec, execBlock, State.emitKeystream_of_unconfigured hc, State.raiseError_eq_status, hc]
    rfl
  | block2 =>
    have hc : s.conf = false := by simpa [Spec.errorOf] using herr
    rw [exec, execBlock2, State.emitKeystream_of_unconfigured hc, State.raiseError_eq_status, hc]
    rfl
  | rdctr => exact absurd rfl herr
  | wipe => exact absurd rfl herr

end Sys2Proof.Machine
end

section
/-! PROOF. Two cores that differ in their engine only: from one state, every datapath gives one answer (R9, R101). -/

namespace Sys2Proof.Machine

/-- `ENGINE` of a datapath. -/
def Datapath.engine : Datapath → Engine
  | .scalar => .scalar
  | .dual _ => .dual

/-- The core `s` built with the datapath `d`. -/
def State.withDatapath (s : State) (d : Datapath) : State := { s with datapath := d }

@[simp] theorem State.withDatapath_engine (s : State) (d : Datapath) : (s.withDatapath d).engine = d.engine := by
  cases d <;> rfl

@[simp] theorem State.withDatapath_conf (s : State) (d : Datapath) : (s.withDatapath d).conf = s.conf := rfl

@[simp] theorem Datapath.zeroOf_engine (e : Engine) : (Datapath.zeroOf e).engine = e := by
  cases e <;> rfl

@[simp] theorem Datapath.forget_engine (d : Datapath) (b : Nat) : (d.forget b).engine = d.engine := by
  cases d <;> rfl

/-- The response words, as a function of the engine, show it in no bit but `DUAL` of one status word (R31). -/
def ShowsOnlyDual (os : Engine → List Word) : Prop :=
  (∀ e, os e = []) ∨ ∃ err conf xs, ∀ e, os e = statusWord err conf e :: xs

/-- From `s` on any datapath, `f` answers one and the same state, but for the datapath, which keeps its engine, and for
response words that show only the bit `DUAL`. -/
def AnswersAlike (s : State) (f : State → Host.Outcome State Fault Refusal) : Prop :=
  ∃ (t : State) (os : Engine → List Word), ShowsOnlyDual os ∧ ∀ d, ∃ d' : Datapath, d'.engine = d.engine ∧
    f (s.withDatapath d) = .next ({ t with rsp := s.rsp ++ os d.engine }.withDatapath d')

/-- An `f` that writes no response word. -/
theorem answersAlike_of_silent {s : State} {f : State → Host.Outcome State Fault Refusal} (t : State)
    (hrsp : t.rsp = s.rsp) (h : ∀ d, f (s.withDatapath d) = .next (t.withDatapath d)) : AnswersAlike s f := by
  refine ⟨t, fun _ => [], .inl fun _ => rfl, fun d => ⟨d, rfl, ?_⟩⟩
  rw [h d, List.append_nil, ← hrsp]

/-- An `f` that ends with a status word (R17, R31). -/
theorem answersAlike_of_status {s : State} {f : State → Host.Outcome State Fault Refusal} (t : State) (err : ErrCode)
    (hrsp : t.rsp = s.rsp)
    (h : ∀ d, ∃ d' : Datapath, d'.engine = d.engine ∧
      f (s.withDatapath d) = .next ((t.withDatapath d').raiseError err)) :
    AnswersAlike s f := by
  refine ⟨t, fun e => [statusWord err t.conf e], .inr ⟨err, t.conf, [], fun _ => rfl⟩, fun d => ?_⟩
  obtain ⟨d', hd', hf⟩ := h d
  refine ⟨d', hd', ?_⟩
  rw [hf, State.raiseError, State.withDatapath_engine, hd', ← hrsp]
  rfl

/-- Equal answers from states with the same RSP, such as before and after the command's words are consumed. -/
theorem AnswersAlike.congr {s u : State} {f g : State → Host.Outcome State Fault Refusal} (h : AnswersAlike u f)
    (hrsp : u.rsp = s.rsp) (hg : ∀ d, g (s.withDatapath d) = f (u.withDatapath d)) : AnswersAlike s g := by
  obtain ⟨t, os, hos, hf⟩ := h
  refine ⟨t, os, hos, fun d => ?_⟩
  rw [hg d, ← hrsp]
  exact hf d

theorem State.messageArrived_withDatapath (s : State) (d : Datapath) :
    (s.withDatapath d).messageArrived = s.messageArrived.withDatapath d := rfl

/-- Forgetting the working registers keeps the engine, though not the lanes. -/
theorem State.forgetWorkAfter_withDatapath (s : State) (d : Datapath) (n : Nat) :
    ∃ d' : Datapath, d'.engine = d.engine ∧
      (s.withDatapath d).forgetWorkAfter n = (s.forgetWorkAfter n).withDatapath d' := by
  cases n with
  | zero => exact ⟨d, rfl, rfl⟩
  | succ n => exact ⟨d.forget (s.freeIx + 32), by simp, rfl⟩

theorem State.transferBytes_withDatapath (s : State) (d : Datapath) (done m : Nat) :
    (s.withDatapath d).transferBytes done m = (s.transferBytes done m).withDatapath d := by
  cases hc : s.conf
  case false =>
    rw [transferBytes_of_unconfigured hc, transferBytes_of_unconfigured (s := s.withDatapath d) hc]
    rfl
  case true =>
    rw [transferBytes_of_configured hc, transferBytes_of_configured (s := s.withDatapath d) hc, transformFrom_eq_mapIdx,
      transformFrom_eq_mapIdx]
    rfl

theorem emitKeystream_answersAlike (s : State) (bs : List Byte) (n : Word) :
    AnswersAlike s fun u => .next (u.emitKeystream bs n) := by
  cases hc : s.conf
  case false =>
    refine answersAlike_of_status s .notConfigured rfl fun d => ⟨d, rfl, ?_⟩
    rw [State.emitKeystream_of_unconfigured (s := s.withDatapath d) hc]
  case true =>
    refine answersAlike_of_status ((s.doutWrite bs).forgetWork.advance n) .ok rfl
      fun d => ⟨d.forget (s.freeIx + 32), by simp, ?_⟩
    rw [State.emitKeystream_of_configured (s := s.withDatapath d) hc]
    rfl

/-- XFORM reads, writes and waits alike, because its bytes are the same from either engine (`transformFrom_eq_mapIdx`). -/
theorem xformFrom_answersAlike (s : State) (len : Word) (done : Nat) :
    AnswersAlike s fun u => .next (u.xformFrom len done) := by
  by_cases hshort : done + s.din.length < len.toNat
  · refine answersAlike_of_silent (s.xformFrom len done) (by simp [State.xformFrom_of_short hshort]) fun d => ?_
    rw [State.xformFrom_of_short hshort, State.xformFrom_of_short (s := s.withDatapath d) hshort,
      State.transferBytes_withDatapath]
    rfl
  have henough := Nat.le_of_not_lt hshort
  cases hc : s.conf
  case false =>
    refine answersAlike_of_status (s.transferBytes done (len.toNat - done)).messageArrived .notConfigured (by simp)
      fun d => ⟨d, rfl, ?_⟩
    rw [State.xformFrom_of_enough (s := s.withDatapath d) henough,
      State.completeXform_of_unconfigured (by simpa using hc), State.transferBytes_withDatapath]
    rfl
  case true =>
    refine answersAlike_of_status (((s.transferBytes done (len.toNat - done)).messageArrived.forgetWorkAfter
      (chunkCount len)).advance (BitVec.ofNat 32 (chunkCount len))) .ok (by simp) fun d => ?_
    obtain ⟨d', hd', hforget⟩ :=
      State.forgetWorkAfter_withDatapath (s.transferBytes done (len.toNat - done)).messageArrived d (chunkCount len)
    refine ⟨d', hd', ?_⟩
    rw [State.xformFrom_of_enough (s := s.withDatapath d) henough,
      State.completeXform_of_configured (by simpa using hc), State.transferBytes_withDatapath,
      State.messageArrived_withDatapath, hforget]
    rfl

theorem execInit_answersAlike (s : State) (key : List Word) (c : Word) (nonce : List Word) :
    AnswersAlike s (execInit key c nonce) := by
  unfold execInit
  split
  case h_1 k n _ _ => exact answersAlike_of_status (s.loadEngine k c n) .ok rfl fun d => ⟨d, rfl, rfl⟩
  case h_2 => exact answersAlike_of_status s .invalidLength rfl fun d => ⟨d, rfl, rfl⟩
  case h_3 => exact answersAlike_of_status s .invalidLength rfl fun d => ⟨d, rfl, rfl⟩

theorem execBlock_answersAlike (s : State) : AnswersAlike s execBlock :=
  (emitKeystream_answersAlike s (keystreamBytes s.key s.ctr s.nonce) 1).congr rfl fun _ => rfl

/-- One dual pass or two scalar blocks: the same 128 bytes (R113). -/
theorem execBlock2_answersAlike (s : State) : AnswersAlike s execBlock2 := by
  refine (emitKeystream_answersAlike s (keystreamBytes s.key s.ctr s.nonce ++ keystreamBytes s.key (s.ctr + 1) s.nonce)
    2).congr rfl fun d => ?_
  rw [execBlock2, pairBytes_eq_keystreamBytes]
  rfl

/-- RDCTR writes the counter behind its status word. -/
theorem execRdctr_answersAlike (s : State) : AnswersAlike s execRdctr := by
  refine ⟨s, fun e => [statusWord .ok s.conf e, s.ctr], .inr ⟨.ok, s.conf, [s.ctr], fun _ => rfl⟩,
    fun d => ⟨d, rfl, ?_⟩⟩
  rw [execRdctr, State.finish, State.rspWrite, State.rspWrite, State.withDatapath_engine, List.append_assoc]
  rfl

theorem execWipe_answersAlike (s : State) : AnswersAlike s execWipe :=
  answersAlike_of_status s.wipeRegisters .ok rfl fun d => ⟨.zeroOf (s.withDatapath d).engine, by simp, rfl⟩

theorem exec_answersAlike (i : Instr) (s : State) : AnswersAlike s (exec i) := by
  cases i with
  | init key c nonce => exact execInit_answersAlike s key c nonce
  | xform len => exact xformFrom_answersAlike s len 0
  | block => exact execBlock_answersAlike s
  | block2 => exact execBlock2_answersAlike s
  | rdctr => exact execRdctr_answersAlike s
  | wipe => exact execWipe_answersAlike s

theorem step_answersAlike (s : State) : AnswersAlike s step := by
  cases hp : s.pendingXform with
  | some p =>
    exact (xformFrom_answersAlike s p.len p.done).congr rfl fun d => step_of_pending (s := s.withDatapath d) hp
  | none =>
    cases hf : s.fetch with
    | incomplete => exact answersAlike_of_silent s rfl fun d => step_of_incomplete (s := s.withDatapath d) hp hf
    | illegal why rest =>
      exact answersAlike_of_status (s.cmdConsumed rest) .illegalCmd rfl
        fun d => ⟨d, rfl, step_of_illegal (s := s.withDatapath d) hp hf⟩
    | command i rest =>
      exact (exec_answersAlike i (s.cmdConsumed rest)).congr rfl fun d => step_of_command (s := s.withDatapath d) hp hf

/-- `DUAL` is bit 9 of the status word (R31). -/
theorem statusWord_dual (err : ErrCode) (conf : Bool) :
    statusWord err conf .dual = statusWord err conf .scalar ||| 0x200#32 := by
  cases err <;> cases conf <;> rfl

/-- Settles O46: the one answer of `step_answersAlike`, read for a scalar and for a dual datapath. -/
theorem engineShowsOnlyInTheDualBit : Obligations.EngineShowsOnlyInTheDualBit := by
  intro s v
  obtain ⟨t, os, hos, h⟩ := step_answersAlike s
  obtain ⟨d₁, he₁, h₁⟩ := h .scalar
  obtain ⟨d₂, he₂, h₂⟩ := h (.dual v)
  refine ⟨_, _, os .scalar, os .dual, h₁, h₂, (State.withDatapath_engine _ _).trans he₁,
    (State.withDatapath_engine _ _).trans he₂, rfl, rfl, rfl, rfl, rfl, rfl, rfl, rfl, rfl, rfl, rfl, ?_⟩
  rcases hos with hnone | ⟨err, conf, xs, hword⟩
  · exact .inl ⟨hnone .scalar, hnone .dual⟩
  · exact .inr ⟨statusWord err conf .scalar, xs, hword .scalar, by rw [hword, statusWord_dual]⟩

end Sys2Proof.Machine
end

section
/-! SUPPORT. The registers that generating keystream leaves alone, and the two ways an INIT can end. -/

namespace Sys2Proof.Machine

/-! ### Generating keystream writes neither `KEY`, `NONCE`, `CONF` nor `ENGINE` (R20, R21, R24, R9) -/

@[simp] theorem State.emitKeystream_key (s : State) (bs : List Byte) (n : Word) :
    (s.emitKeystream bs n).key = s.key := by
  unfold State.emitKeystream; split <;> rfl
@[simp] theorem State.emitKeystream_nonce (s : State) (bs : List Byte) (n : Word) :
    (s.emitKeystream bs n).nonce = s.nonce := by
  unfold State.emitKeystream; split <;> rfl
@[simp] theorem State.emitKeystream_conf (s : State) (bs : List Byte) (n : Word) :
    (s.emitKeystream bs n).conf = s.conf := by
  unfold State.emitKeystream; split <;> rfl
@[simp] theorem State.emitKeystream_engine (s : State) (bs : List Byte) (n : Word) :
    (s.emitKeystream bs n).engine = s.engine := by
  unfold State.emitKeystream; split <;> simp

@[simp] theorem State.completeXform_key (s : State) (len : Word) : (s.completeXform len).key = s.key := by
  unfold State.completeXform; split <;> simp
@[simp] theorem State.completeXform_nonce (s : State) (len : Word) : (s.completeXform len).nonce = s.nonce := by
  unfold State.completeXform; split <;> simp
@[simp] theorem State.completeXform_conf (s : State) (len : Word) : (s.completeXform len).conf = s.conf := by
  unfold State.completeXform; split <;> simp
@[simp] theorem State.completeXform_engine (s : State) (len : Word) : (s.completeXform len).engine = s.engine := by
  unfold State.completeXform; split <;> simp

@[simp] theorem State.xformFrom_key (s : State) (len : Word) (done : Nat) : (s.xformFrom len done).key = s.key := by
  unfold State.xformFrom; split <;> simp
@[simp] theorem State.xformFrom_nonce (s : State) (len : Word) (done : Nat) :
    (s.xformFrom len done).nonce = s.nonce := by
  unfold State.xformFrom; split <;> simp
@[simp] theorem State.xformFrom_conf (s : State) (len : Word) (done : Nat) : (s.xformFrom len done).conf = s.conf := by
  unfold State.xformFrom; split <;> simp
@[simp] theorem State.xformFrom_engine (s : State) (len : Word) (done : Nat) :
    (s.xformFrom len done).engine = s.engine := by
  unfold State.xformFrom; split <;> simp

/-! ### What INIT can do -/

/-- INIT loads the engine with its 8 key words and 3 nonce words, or reports its wrong counts (R74, R121). -/
theorem execInit_cases (key : List Word) (c : Word) (nonce : List Word) (s : State) :
    (∃ k n, key = k.toList ∧ nonce = n.toList ∧ execInit key c nonce s = .next (s.loadEngine k c n).finish) ∨
      (¬(key.length = 8 ∧ nonce.length = 3) ∧ execInit key c nonce s = .next (s.raiseError .invalidLength)) := by
  by_cases hcounts : key.length = 8 ∧ nonce.length = 3
  · obtain ⟨hk, hn⟩ := hcounts
    obtain ⟨k, hk⟩ := Option.ne_none_iff_exists'.mp fun h => keyOfWords_eq_none.mp h hk
    obtain ⟨n, hn⟩ := Option.ne_none_iff_exists'.mp fun h => nonceOfWords_eq_none.mp h hn
    obtain rfl := keyOfWords_eq_some hk
    obtain rfl := nonceOfWords_eq_some hn
    exact .inl ⟨k, n, rfl, rfl, execInit_of_counts k c n s⟩
  · exact .inr ⟨hcounts, execInit_of_bad_counts hcounts c s⟩

end Sys2Proof.Machine
end

section
/-! PROOF. The invariant of the core: one rule for each state update, then the commands, then the step and the host. -/

namespace Sys2Proof.Machine

/-! ### Updates of the queues and of the working registers touch nothing the invariant speaks of -/

theorem State.Inv.cmdConsumed {s : State} (h : s.Inv) (rest : List Word) : (s.cmdConsumed rest).Inv :=
  ⟨h.matrixFollows, h.noResidue, h.progressFits⟩

theorem State.Inv.dinConsumed {s : State} (h : s.Inv) (n : Nat) : (s.dinConsumed n).Inv :=
  ⟨h.matrixFollows, h.noResidue, h.progressFits⟩

theorem State.Inv.doutWrite {s : State} (h : s.Inv) (bs : List Byte) : (s.doutWrite bs).Inv :=
  ⟨h.matrixFollows, h.noResidue, h.progressFits⟩

theorem State.Inv.rspWrite {s : State} (h : s.Inv) (w : Word) : (s.rspWrite w).Inv :=
  ⟨h.matrixFollows, h.noResidue, h.progressFits⟩

theorem State.Inv.finish {s : State} (h : s.Inv) : s.finish.Inv := h.rspWrite _

theorem State.Inv.raiseError {s : State} (h : s.Inv) (err : ErrCode) : (s.raiseError err).Inv := h.rspWrite _

theorem State.Inv.forgetWork {s : State} (h : s.Inv) : s.forgetWork.Inv :=
  ⟨h.matrixFollows, h.noResidue, h.progressFits⟩

theorem State.Inv.forgetWorkAfter {s : State} (h : s.Inv) (n : Nat) : (s.forgetWorkAfter n).Inv := by
  cases n with
  | zero => exact h
  | succ n => exact h.forgetWork

theorem State.Inv.transferBytes {s : State} (h : s.Inv) (done m : Nat) : (s.transferBytes done m).Inv := by
  unfold State.transferBytes
  split
  · exact (h.dinConsumed m).doutWrite _
  · exact h.dinConsumed m

/-! ### Updates of the registers -/

theorem State.Inv.awaitMessage {s : State} (h : s.Inv) {len : Word} {done : Nat} (hdone : done < len.toNat) :
    (s.awaitMessage len done).Inv :=
  ⟨h.matrixFollows, h.noResidue, fun p hp => by cases hp; exact hdone⟩

theorem State.Inv.messageArrived {s : State} (h : s.Inv) : s.messageArrived.Inv :=
  ⟨h.matrixFollows, h.noResidue, fun _ hp => nomatch hp⟩

theorem State.Inv.loadEngine {s : State} (h : s.Inv) (k : Key) (c : Word) (n : Nonce) : (s.loadEngine k c n).Inv :=
  ⟨fun _ => rfl, fun hc => (nomatch hc), h.progressFits⟩

/-- `S` follows the counter; a core that is configured owes no zeros. -/
theorem State.Inv.advance {s : State} (h : s.Inv) (hc : s.conf = true) (n : Word) : (s.advance n).Inv :=
  ⟨fun _ => rfl, fun hc' => absurd (hc.symm.trans hc') (by decide), h.progressFits⟩

theorem State.Inv.wipeRegisters {s : State} (h : s.Inv) : s.wipeRegisters.Inv :=
  ⟨fun hc => (nomatch hc), fun _ => ⟨rfl, rfl, rfl, rfl⟩, h.progressFits⟩

theorem State.inv_resetFor (e : Engine) : (State.resetFor e).Inv :=
  ⟨fun hc => (nomatch hc), fun _ => ⟨rfl, rfl, rfl, rfl⟩, fun _ hp => nomatch hp⟩

/-! ### The commands and the step -/

theorem State.Inv.emitKeystream {s : State} (h : s.Inv) (bs : List Byte) (n : Word) : (s.emitKeystream bs n).Inv := by
  unfold State.emitKeystream
  split
  case isTrue hc => exact ((h.doutWrite bs).forgetWork.advance hc n).finish
  case isFalse => exact h.raiseError _

theorem State.Inv.completeXform {s : State} (h : s.Inv) (len : Word) : (s.completeXform len).Inv := by
  unfold State.completeXform
  split
  case isTrue hc => exact ((h.messageArrived.forgetWorkAfter _).advance (by simpa using hc) _).finish
  case isFalse => exact h.messageArrived.raiseError _

theorem State.Inv.xformFrom {s : State} (h : s.Inv) (len : Word) (done : Nat) : (s.xformFrom len done).Inv := by
  unfold State.xformFrom
  split
  case isTrue hshort => exact (h.transferBytes _ _).awaitMessage hshort
  case isFalse => exact (h.transferBytes _ _).completeXform len

theorem State.Inv.exec {s t : State} (h : s.Inv) {i : Instr} (ht : exec i s = .next t) : t.Inv := by
  cases i with
  | init key c nonce =>
    obtain ⟨k, n, -, -, hexec⟩ | ⟨-, hexec⟩ := execInit_cases key c nonce s
    · cases hexec.symm.trans ht
      exact (h.loadEngine k c n).finish
    · cases hexec.symm.trans ht
      exact h.raiseError _
  | xform len => cases ht; exact h.xformFrom len 0
  | block => cases ht; exact h.emitKeystream _ _
  | block2 => cases ht; exact h.emitKeystream _ _
  | rdctr => cases ht; exact h.finish.rspWrite _
  | wipe => cases ht; exact h.wipeRegisters.finish

theorem State.Inv.step {s t : State} (h : s.Inv) (ht : step s = .next t) : t.Inv := by
  cases hp : s.pendingXform with
  | some p =>
    cases (step_of_pending hp).symm.trans ht
    exact h.xformFrom p.len p.done
  | none =>
    cases hf : s.fetch with
    | incomplete =>
      cases (step_of_incomplete hp hf).symm.trans ht
      exact h
    | illegal why rest =>
      cases (step_of_illegal hp hf).symm.trans ht
      exact (h.cmdConsumed rest).raiseError _
    | command i rest => exact (h.cmdConsumed rest).exec ((step_of_command hp hf).symm.trans ht)

/-! ### What the host can do -/

theorem State.Inv.hostWriteCmd {s : State} (h : s.Inv) (ws : List Word) : (s.hostWriteCmd ws).Inv :=
  ⟨h.matrixFollows, h.noResidue, h.progressFits⟩

theorem State.Inv.hostWriteDin {s : State} (h : s.Inv) (bs : List Byte) : (s.hostWriteDin bs).Inv :=
  ⟨h.matrixFollows, h.noResidue, h.progressFits⟩

theorem State.Inv.hostReadDout {s : State} (h : s.Inv) (n : Nat) : (s.hostReadDout n).2.Inv :=
  ⟨h.matrixFollows, h.noResidue, h.progressFits⟩

theorem State.Inv.hostReadRsp {s : State} (h : s.Inv) (n : Nat) : (s.hostReadRsp n).2.Inv :=
  ⟨h.matrixFollows, h.noResidue, h.progressFits⟩

/-- Settles O43, one rule for the step and one for each thing the host can do. -/
theorem everyStepKeepsTheInvariant : Obligations.EveryStepKeepsTheInvariant := fun s h =>
  ⟨fun _ ht => h.step ht, h.hostWriteCmd, h.hostWriteDin, h.hostReadDout, h.hostReadRsp, State.inv_resetFor s.engine⟩

/-- Settles O44. -/
theorem resetStateIsInvariant : Obligations.ResetStateIsInvariant :=
  ⟨State.inv_resetFor Config.engine, State.inv_resetFor⟩

end Sys2Proof.Machine
end

section
/-! PROOF. Working registers carry nothing: each update takes states that agree but for them to such states (R27, R28). -/

namespace Sys2Proof.Machine

section
variable {s t : State}

/-! ### Each update, on two states that agree but for the working registers -/

theorem SameButWork.cmdConsumed (h : SameButWork s t) (rest : List Word) :
    SameButWork (s.cmdConsumed rest) (t.cmdConsumed rest) := { h with cmd := rfl }

theorem SameButWork.dinConsumed (h : SameButWork s t) (n : Nat) :
    SameButWork (s.dinConsumed n) (t.dinConsumed n) := { h with din := congrArg (List.drop n) h.din }

theorem SameButWork.doutWrite (h : SameButWork s t) (bs : List Byte) :
    SameButWork (s.doutWrite bs) (t.doutWrite bs) := { h with dout := congrArg (· ++ bs) h.dout }

theorem SameButWork.rspWrite (h : SameButWork s t) (w : Word) :
    SameButWork (s.rspWrite w) (t.rspWrite w) := { h with rsp := congrArg (· ++ [w]) h.rsp }

/-- A status word shows `CONF` and `ENGINE`, in which the states agree. -/
theorem SameButWork.raiseError (h : SameButWork s t) (err : ErrCode) :
    SameButWork (s.raiseError err) (t.raiseError err) := by
  rw [State.raiseError, State.raiseError, h.conf, h.engine]
  exact h.rspWrite _

theorem SameButWork.finish (h : SameButWork s t) : SameButWork s.finish t.finish := h.raiseError .ok

theorem SameButWork.awaitMessage (h : SameButWork s t) (len : Word) (done : Nat) :
    SameButWork (s.awaitMessage len done) (t.awaitMessage len done) := { h with pendingXform := rfl }

theorem SameButWork.messageArrived (h : SameButWork s t) : SameButWork s.messageArrived t.messageArrived :=
  { h with pendingXform := rfl }

theorem SameButWork.loadEngine (h : SameButWork s t) (k : Key) (c : Word) (n : Nonce) :
    SameButWork (s.loadEngine k c n) (t.loadEngine k c n) :=
  { h with key := rfl, nonce := rfl, ctr := rfl, conf := rfl, matS := rfl }

theorem SameButWork.advance (h : SameButWork s t) (n : Word) : SameButWork (s.advance n) (t.advance n) :=
  { h with ctr := by simp [h.ctr], matS := by simp [h.key, h.ctr, h.nonce] }

theorem SameButWork.wipeRegisters (h : SameButWork s t) : SameButWork s.wipeRegisters t.wipeRegisters :=
  { h with key := rfl, nonce := rfl, ctr := rfl, conf := rfl, matS := rfl, engine := by simp [h.engine] }

/-- The free values are numbered apart in the two states, and fill nothing but working registers. -/
theorem SameButWork.forgetWork (h : SameButWork s t) : SameButWork s.forgetWork t.forgetWork :=
  { h with engine := by simp [h.engine] }

theorem SameButWork.forgetWorkAfter (h : SameButWork s t) (n : Nat) :
    SameButWork (s.forgetWorkAfter n) (t.forgetWorkAfter n) := by
  cases n with
  | zero => exact h
  | succ n => exact h.forgetWork

/-! ### The commands -/

theorem SameButWork.emitKeystream (h : SameButWork s t) (bs : List Byte) (n : Word) :
    SameButWork (s.emitKeystream bs n) (t.emitKeystream bs n) := by
  unfold State.emitKeystream
  rw [← h.conf]
  split
  · exact ((h.doutWrite bs).forgetWork.advance n).finish
  · exact h.raiseError _

theorem SameButWork.transferBytes (h : SameButWork s t) (done m : Nat) :
    SameButWork (s.transferBytes done m) (t.transferBytes done m) := by
  unfold State.transferBytes
  rw [← h.conf, ← h.engine, ← h.key, ← h.nonce, ← h.ctr, ← h.din]
  split
  · exact (h.dinConsumed m).doutWrite _
  · exact h.dinConsumed m

theorem SameButWork.completeXform (h : SameButWork s t) (len : Word) :
    SameButWork (s.completeXform len) (t.completeXform len) := by
  unfold State.completeXform
  rw [← h.conf]
  split
  · exact ((h.messageArrived.forgetWorkAfter _).advance _).finish
  · exact h.messageArrived.raiseError _

theorem SameButWork.xformFrom (h : SameButWork s t) (len : Word) (done : Nat) :
    SameButWork (s.xformFrom len done) (t.xformFrom len done) := by
  have hready : t.dinReady (len.toNat - done) = s.dinReady (len.toNat - done) := by
    rw [State.dinReady, State.dinReady, h.din]
  unfold State.xformFrom
  rw [hready]
  split
  · exact (h.transferBytes _ _).awaitMessage _ _
  · exact (h.transferBytes _ _).completeXform _

theorem SameButWork.execInit (h : SameButWork s t) (key : List Word) (c : Word) (nonce : List Word) :
    ∃ s' t', execInit key c nonce s = .next s' ∧ execInit key c nonce t = .next t' ∧ SameButWork s' t' := by
  unfold Machine.execInit
  split
  case h_1 k n _ _ => exact ⟨_, _, rfl, rfl, (h.loadEngine k c n).finish⟩
  case h_2 => exact ⟨_, _, rfl, rfl, h.raiseError _⟩
  case h_3 => exact ⟨_, _, rfl, rfl, h.raiseError _⟩

theorem SameButWork.execBlock (h : SameButWork s t) : SameButWork
    (s.emitKeystream (keystreamBytes s.key s.ctr s.nonce) 1)
    (t.emitKeystream (keystreamBytes t.key t.ctr t.nonce) 1) := by
  rw [← h.key, ← h.ctr, ← h.nonce]
  exact h.emitKeystream _ _

theorem SameButWork.execBlock2 (h : SameButWork s t) : SameButWork
    (s.emitKeystream (pairBytes s.engine s.key s.ctr s.nonce) 2)
    (t.emitKeystream (pairBytes t.engine t.key t.ctr t.nonce) 2) := by
  rw [← h.engine, ← h.key, ← h.ctr, ← h.nonce]
  exact h.emitKeystream _ _

/-- RDCTR writes the counter, in which the states agree. -/
theorem SameButWork.execRdctr (h : SameButWork s t) :
    SameButWork (s.finish.rspWrite s.ctr) (t.finish.rspWrite t.ctr) := by
  rw [← h.ctr]
  exact h.finish.rspWrite _

theorem SameButWork.exec (h : SameButWork s t) (i : Instr) :
    ∃ s' t', exec i s = .next s' ∧ exec i t = .next t' ∧ SameButWork s' t' := by
  cases i with
  | init key c nonce => exact h.execInit key c nonce
  | xform len => exact ⟨_, _, rfl, rfl, h.xformFrom len 0⟩
  | block => exact ⟨_, _, rfl, rfl, h.execBlock⟩
  | block2 => exact ⟨_, _, rfl, rfl, h.execBlock2⟩
  | rdctr => exact ⟨_, _, rfl, rfl, h.execRdctr⟩
  | wipe => exact ⟨_, _, rfl, rfl, h.wipeRegisters.finish⟩

/-- The two states are at the same point of the same command, so they take the same kind of step. -/
theorem SameButWork.step (h : SameButWork s t) :
    ∃ s' t', step s = .next s' ∧ step t = .next t' ∧ SameButWork s' t' := by
  have hfetch : t.fetch = s.fetch := congrArg decode h.cmd.symm
  cases hp : s.pendingXform with
  | some p =>
    exact ⟨_, _, step_of_pending hp, step_of_pending (h.pendingXform.symm.trans hp), h.xformFrom p.len p.done⟩
  | none =>
    have hp' : t.pendingXform = none := h.pendingXform.symm.trans hp
    cases hf : s.fetch with
    | incomplete => exact ⟨s, t, step_of_incomplete hp hf, step_of_incomplete hp' (hfetch.trans hf), h⟩
    | illegal why rest =>
      exact ⟨_, _, step_of_illegal hp hf, step_of_illegal hp' (hfetch.trans hf), (h.cmdConsumed rest).raiseError _⟩
    | command i rest =>
      rw [step_of_command hp hf, step_of_command hp' (hfetch.trans hf)]
      exact (h.cmdConsumed rest).exec i

end

/-- Settles O47: a step has one outcome, so the one of `SameButWork.step` is the one given. -/
theorem workingRegistersCarryNothing : Obligations.WorkingRegistersCarryNothing := by
  intro s₁ s₂ t₁ h hstep
  obtain ⟨s', t', hs', ht', hsame⟩ := h.step
  cases hs'.symm.trans hstep
  exact ⟨t', ht', hsame⟩

end Sys2Proof.Machine
end

section
/-! PROOF. Blocks after INIT: induction on their number, from any configured core whose `S` follows its counter (R23). -/

namespace Sys2Proof.Machine

theorem add_one_add_ofNat (c : Word) (q : Nat) : c + 1 + BitVec.ofNat 32 q = c + BitVec.ofNat 32 (q + 1) := by
  rw [Nat.add_comm q, BitVec.ofNat_add, BitVec.add_assoc]
  rfl

theorem keystream_succ (k : Key) (c : Word) (n : Nonce) (q : Nat) :
    Spec.keystream k c n (q + 1) = keystreamBytes k c n ++ Spec.keystream k (c + 1) n q := by
  have hzero : c + BitVec.ofNat 32 0 = c := BitVec.add_zero c
  simp only [Spec.keystream, List.range_succ_eq_map, List.flatMap_cons, List.flatMap_map, hzero, add_one_add_ofNat]

/-- `q` BLOCKs all go on, return the next `q` blocks and leave the counter, and `S` with it, `q` further (R89, R92). -/
theorem repeatExec_block (q : Nat) : ∀ s : State, s.conf = true → s.matS = initState s.key s.ctr s.nonce →
    ∃ u, Spec.repeatExec .block q s = some u ∧ u.dout = s.dout ++ Spec.keystream s.key s.ctr s.nonce q ∧
      u.ctr = s.ctr + BitVec.ofNat 32 q ∧ u.matS = initState s.key (s.ctr + BitVec.ofNat 32 q) s.nonce := by
  induction q with
  | zero => exact fun s _ hmat => ⟨s, rfl, by simp [Spec.keystream], by simp, by simpa using hmat⟩
  | succ q ih =>
    intro s hc hmat
    have hblock : exec .block s =
        .next (((s.doutWrite (keystreamBytes s.key s.ctr s.nonce)).forgetWork.advance 1).finish) := by
      rw [exec, execBlock, State.emitKeystream_of_configured hc]
    obtain ⟨u, hrun, hdout, huctr, humat⟩ :=
      ih ((s.doutWrite (keystreamBytes s.key s.ctr s.nonce)).forgetWork.advance 1).finish (by simpa using hc) (by simp)
    refine ⟨u, ?_, ?_, huctr.trans (add_one_add_ofNat s.ctr q), ?_⟩
    · simpa [Spec.repeatExec, hblock] using hrun
    · simpa [keystream_succ] using hdout
    · rw [humat, ← add_one_add_ofNat]
      rfl

/-- Settles O26: INIT leaves a configured core whose `S` follows its counter, where `repeatExec_block` starts. -/
theorem blocksAfterInitCountUpFromItsCounter : Obligations.BlocksAfterInitCountUpFromItsCounter := by
  intro s k c n q
  obtain ⟨u, hrun, hdout, hctr, hmat⟩ := repeatExec_block q (s.loadEngine k c n).finish rfl rfl
  exact ⟨_, u, execInit_of_counts k c n s, hrun, hdout, hctr, hmat⟩

end Sys2Proof.Machine
end

section
/-! PROOF. The status word and its fields (R31, R119), and that every command writes one. -/

namespace Sys2Proof.Machine

/-! ### The fields -/

section
variable (err : ErrCode) (conf : Bool) (e : Engine)

theorem ErrCode.code_le : err.code.toNat ≤ 3 := by
  cases err <;> decide

theorem statusWord_errField : (statusWord err conf e).extractLsb' 0 4 = err.code :=
  BitVec.extractLsb'_append_eq_right

theorem statusWord_confBit : (statusWord err conf e).getLsbD 8 = conf := by
  simp only [statusWord, BitVec.getLsbD_append]
  simp

theorem statusWord_dualBit : (statusWord err conf e).getLsbD 9 = dualBit e := by
  simp only [statusWord, BitVec.getLsbD_append]
  simp

theorem dualBit_eq_decide : dualBit e = decide (e = .dual) := by
  cases e <;> rfl

/-- Bits 4 to 7. -/
theorem statusWord_lowZeros : (statusWord err conf e).extractLsb' 4 4 = 0 := by
  ext i hi
  simp only [statusWord, BitVec.getElem_extractLsb', BitVec.getLsbD_append]
  simp [hi]

/-- Bits 10 to 31. -/
theorem statusWord_highZeros : (statusWord err conf e).extractLsb' 10 22 = 0 := by
  ext i hi
  simp only [statusWord, BitVec.getElem_extractLsb', BitVec.getLsbD_append]
  simp [show ¬10 + i < 4 by omega, show 10 + i - 4 - 4 = i + 2 by omega]

end

/-- Settles O37, field by field. -/
theorem statusWordHasItsFields : Obligations.StatusWordHasItsFields := fun err conf e =>
  ⟨statusWord_errField err conf e, err.code_le, statusWord_lowZeros err conf e, statusWord_confBit err conf e,
    (statusWord_dualBit err conf e).trans (dualBit_eq_decide e), statusWord_highZeros err conf e,
    statusWord_eq_status err conf e⟩

/-! ### Illegal words -/

/-- A word that selects INIT has its opcode in `OPC` and no bit of `RSVD` (R57). -/
theorem initWord_fields {w : Word} (h : w &&& 0xFFFF00FF#32 = 0x00000001#32) :
    w.toNat % 256 = 1 ∧ w.toNat / 65536 = 0 := by
  have hnat : w.toNat &&& 0xFFFF00FF = 1 := by simpa using congrArg BitVec.toNat h
  constructor
  · have hlow : w.toNat &&& (0xFFFF00FF &&& 0xFF) = 1 &&& 0xFF := by rw [← Nat.and_assoc, hnat]
    exact (Nat.and_two_pow_sub_one_eq_mod w.toNat 8).symm.trans hlow
  · have hhigh : (w.toNat >>> 16) &&& (0xFFFF00FF >>> 16) = 1 >>> 16 := by rw [← Nat.shiftRight_and_distrib, hnat]
    have hlt : w.toNat >>> 16 < 2 ^ 16 := by rw [Nat.shiftRight_eq_div_pow]; omega
    calc w.toNat / 65536 = w.toNat >>> 16 := (Nat.shiftRight_eq_div_pow w.toNat 16).symm
      _ = w.toNat >>> 16 &&& (2 ^ 16 - 1) := (Nat.and_two_pow_sub_one_of_lt_two_pow hlt).symm
      _ = 0 := hhigh

/-- A word that selects a row of the opcode table meets no clause of R63. -/
theorem not_isIllegal_of_selects {r : OpRow} (hr : r ∈ opTable) {w : Word} (h : r.selects w = true) :
    ¬Spec.IsIllegal w := by
  have table : ∀ a ∈ opTable, (a.mask = 0xFFFF00FF#32 ∧ a.pattern = 0x00000001#32) ∨
      (a.mask = BitVec.allOnes 32 ∧ ¬Spec.IsIllegal a.pattern) := by
    unfold Spec.IsIllegal
    decide
  rw [OpRow.selects, beq_iff_eq] at h
  obtain ⟨hmask, hpattern⟩ | ⟨hmask, hlegal⟩ := table r hr
  · rw [hmask, hpattern] at h
    obtain ⟨hopc, hrsvd⟩ := initWord_fields h
    unfold Spec.IsIllegal
    omega
  · rw [hmask, BitVec.and_allOnes] at h
    rwa [h]

theorem decode_of_isIllegal {w : Word} (h : Spec.IsIllegal w) (ws : List Word) :
    decode (w :: ws) = .illegal (illegalReason w) ws := by
  have hnone : selectOp w = none := by
    rw [selectOp, Option.map_eq_none_iff, List.find?_eq_none]
    exact fun r hr hs => not_isIllegal_of_selects hr hs h
  rw [decode, hnone]

/-! ### The status word of each command -/

theorem State.emitKeystream_rsp (s : State) (bs : List Byte) (n : Word) :
    (s.emitKeystream bs n).rsp = s.rsp ++ [Spec.status (if s.conf then 0 else 3) s.conf s.engine] := by
  cases hc : s.conf
  case false => simp [emitKeystream_of_unconfigured hc, statusWord_eq_status, ErrCode.code, hc]
  case true => simp [emitKeystream_of_configured hc, statusWord_eq_status, ErrCode.code, hc]

theorem State.completeXform_rsp (s : State) (len : Word) :
    (s.completeXform len).rsp = s.rsp ++ [Spec.status (if s.conf then 0 else 3) s.conf s.engine] := by
  cases hc : s.conf
  case false => simp [completeXform_of_unconfigured hc, statusWord_eq_status, ErrCode.code, hc]
  case true => simp [completeXform_of_configured hc, statusWord_eq_status, ErrCode.code, hc]

/-- The status word a command with its operands ends with, and RDCTR's second word (R31, R115, R119). -/
theorem exec_rsp {i : Instr} {s t : State} (hlen : i.messageLength ≤ s.din.length) (ht : exec i s = .next t) :
    t.rsp = s.rsp ++ Spec.status (Spec.errorOf i s.conf) t.conf t.engine :: (if i = .rdctr then [t.ctr] else []) := by
  cases i with
  | init key c nonce =>
    obtain ⟨k, n, rfl, rfl, hexec⟩ | ⟨hcounts, hexec⟩ := execInit_cases key c nonce s
    · cases hexec.symm.trans ht
      simp [Spec.errorOf, statusWord_eq_status, ErrCode.code]
    · cases hexec.symm.trans ht
      simp [Spec.errorOf, statusWord_eq_status, ErrCode.code, hcounts]
  | xform len =>
    have henough : len.toNat ≤ 0 + s.din.length := by rwa [Nat.zero_add]
    cases ht
    rw [State.xformFrom_conf, State.xformFrom_engine, State.xformFrom_of_enough henough, State.completeXform_rsp]
    simp [Spec.errorOf]
  | block => cases ht; simp [Spec.errorOf, State.emitKeystream_rsp]
  | block2 => cases ht; simp [Spec.errorOf, State.emitKeystream_rsp]
  | rdctr => cases ht; simp [Spec.errorOf, statusWord_eq_status, ErrCode.code]
  | wipe => cases ht; simp [Spec.errorOf, statusWord_eq_status, ErrCode.code]

/-- Settles O38: a command by `exec_rsp`, an illegal word because the decoder refuses it. -/
theorem everyCommandWritesOneStatusWord : Obligations.EveryCommandWritesOneStatusWord := by
  refine ⟨fun i s t hlen ht => exec_rsp hlen ht, fun s t w ws hp hcmd hill ht => ?_⟩
  have hfetch : s.fetch = .illegal (illegalReason w) ws := by rw [State.fetch, hcmd, decode_of_isIllegal hill]
  cases (step_of_illegal hp hfetch).symm.trans ht
  simp [statusWord_eq_status, ErrCode.code]

end Sys2Proof.Machine
end

section
/-! PROOF. Which registers a command writes: `KEY`, `NONCE` and `CONF` (R20, R21, R24), and the counter (R22). -/

namespace Sys2Proof.Machine

/-- Settles O41, command by command. -/
theorem onlyInitAndWipeWriteKeyNonceConf : Obligations.OnlyInitAndWipeWriteKeyNonceConf := by
  intro i s t ht
  cases i with
  | init key c nonce =>
    obtain ⟨k, n, rfl, rfl, hexec⟩ | ⟨-, hexec⟩ := execInit_cases key c nonce s
    · cases hexec.symm.trans ht
      exact .inr (.inr ⟨k, c, n, rfl, rfl, rfl, rfl⟩)
    · cases hexec.symm.trans ht
      exact .inl ⟨rfl, rfl, rfl⟩
  | xform len => cases ht; exact .inl ⟨by simp, by simp, by simp⟩
  | block => cases ht; exact .inl ⟨by simp, by simp, by simp⟩
  | block2 => cases ht; exact .inl ⟨by simp, by simp, by simp⟩
  | rdctr => cases ht; exact .inl ⟨rfl, rfl, rfl⟩
  | wipe => cases ht; exact .inr (.inl ⟨rfl, rfl, rfl, rfl⟩)

/-- From `s` to `t` the counter advances by one for every block of which bytes went to DOUT (R22, R89, R95). -/
def CounterFollows (s t : State) : Prop :=
  t.ctr = s.ctr + BitVec.ofNat 32 (Spec.blocksFor (t.dout.length - s.dout.length))

theorem counterFollows_of_output {s t : State} (out : List Byte) (hdout : t.dout = s.dout ++ out)
    (hctr : t.ctr = s.ctr + BitVec.ofNat 32 (Spec.blocksFor out.length)) : CounterFollows s t := by
  have hlen : t.dout.length - s.dout.length = out.length := by
    rw [hdout, List.length_append, Nat.add_sub_cancel_left]
  rw [CounterFollows, hctr, hlen]

/-- A command that reports an error, or only reads the counter. -/
theorem counterFollows_of_no_output {s t : State} (hdout : t.dout = s.dout) (hctr : t.ctr = s.ctr) :
    CounterFollows s t :=
  counterFollows_of_output [] (by simp [hdout]) (by simp [hctr, Spec.blocksFor])

theorem emitKeystream_counterFollows (s : State) {bs : List Byte} {q : Nat} (hbs : bs.length = 64 * q) :
    CounterFollows s (s.emitKeystream bs (BitVec.ofNat 32 q)) := by
  have hq : Spec.blocksFor bs.length = q := by rw [Spec.blocksFor]; omega
  cases hc : s.conf
  case false =>
    rw [State.emitKeystream_of_unconfigured hc]
    exact counterFollows_of_no_output rfl rfl
  case true =>
    rw [State.emitKeystream_of_configured hc]
    exact counterFollows_of_output bs rfl (by rw [hq]; rfl)

/-- `chunkCount` is R14's quotient, and an XFORM that has its message writes as many bytes as it reads (R94, R95). -/
theorem xformFrom_counterFollows {s : State} {len : Word} (hlen : len.toNat ≤ s.din.length) :
    CounterFollows s (s.xformFrom len 0) := by
  have henough : len.toNat ≤ 0 + s.din.length := by omega
  cases hc : s.conf
  case false =>
    rw [State.xformFrom_of_unconfigured hc hlen]
    exact counterFollows_of_no_output rfl rfl
  case true =>
    rw [State.xformFrom_of_enough henough, State.transferBytes_of_configured hc, Nat.sub_zero,
      State.completeXform_of_configured (by simpa using hc)]
    refine counterFollows_of_output (transformFrom s.engine s.key s.nonce s.ctr 0 (s.din.take len.toNat)) (by simp) ?_
    have hout : (transformFrom s.engine s.key s.nonce s.ctr 0 (s.din.take len.toNat)).length = len.toNat := by
      rw [transformFrom_length, List.length_take_of_le hlen]
    rw [hout]
    simp [chunkCount, ceilDiv, Spec.blocksFor]

/-- Settles O42, command by command. -/
theorem counterFollowsTheOutput : Obligations.CounterFollowsTheOutput := by
  intro i s t hlen ht hwipe hinit
  cases i with
  | init key c nonce => exact absurd rfl (hinit key c nonce)
  | xform len => cases ht; exact xformFrom_counterFollows hlen
  | block => cases ht; exact emitKeystream_counterFollows s (keystreamBytes_length ..)
  | block2 => cases ht; exact emitKeystream_counterFollows s (by rw [pairBytes_eq_keystreamBytes]; simp)
  | rdctr => cases ht; exact counterFollows_of_no_output rfl rfl
  | wipe => exact absurd rfl hwipe

end Sys2Proof.Machine
end

section
/-! PROOF. What reset leaves (R34, R136, R137). -/

namespace Sys2Proof.Machine

/-- The vector registers, where there are any, are zero after reset. -/
theorem Datapath.eq_zero_of_zeroOf {e : Engine} {v : VRegs} (h : Datapath.zeroOf e = .dual v) : v = .zero := by
  cases e <;> cases h
  rfl

/-- The first words written after reset are decoded from a command word on (R136). -/
theorem step_resetFor_hostWriteCmd (e : Engine) {ws rest : List Word} {i : Instr} (h : decode ws = .command i rest) :
    step ((State.resetFor e).hostWriteCmd ws) = exec i ((State.resetFor e).hostWriteCmd rest) :=
  step_of_command rfl h

/-- Settles O45: either reset is the reset of some engine. -/
theorem resetLeavesNothingBehind : Obligations.ResetLeavesNothingBehind := by
  refine ⟨State.reset_engine, fun s => State.resetFor_engine s.engine, fun r hr => ?_⟩
  have hreset : ∃ e, r = State.resetFor e := by
    obtain hr | ⟨s, hr⟩ := hr
    · exact ⟨_, hr⟩
    · exact ⟨_, hr⟩
  obtain ⟨e, rfl⟩ := hreset
  exact ⟨rfl, rfl, rfl, rfl, rfl, rfl, rfl, fun _ => Datapath.eq_zero_of_zeroOf, rfl, rfl, rfl, rfl,
    fun _ _ _ => step_resetFor_hostWriteCmd e⟩

end Sys2Proof.Machine
end

section
/-! SUPPORT. What the decoder leaves on CMD, and the output of one portion of an XFORM's message (R43, R93, R122). -/

namespace Sys2Proof

/-- The words a decoded command or illegal word leaves on CMD. -/
def Decoded.rest : Decoded → List Word
  | .command _ rest => rest
  | .illegal _ rest => rest
  | .incomplete => []

theorem decodeInit_rest_suffix (klen nlen : Nat) (ws : List Word) : (decodeInit klen nlen ws).rest <:+ ws := by
  unfold decodeInit
  split
  case isTrue => exact List.nil_suffix
  case isFalse =>
    split
    case h_1 => exact List.nil_suffix
    case h_2 c rest hdrop =>
      have hrest : rest <:+ ws := (List.suffix_cons c rest).trans (hdrop ▸ List.drop_suffix klen ws)
      exact (List.drop_suffix nlen rest).trans hrest

theorem decodeXform_rest_suffix (ws : List Word) : (decodeXform ws).rest <:+ ws := by
  cases ws with
  | nil => exact List.nil_suffix
  | cons len rest => exact List.suffix_cons len rest

/-- The decoder takes words from the front of CMD only. -/
theorem decode_rest_suffix (ws : List Word) : (decode ws).rest <:+ ws := by
  cases ws with
  | nil => exact List.nil_suffix
  | cons w ws =>
    have hws : (decode (w :: ws)).rest <:+ ws := by
      rw [decode]
      split
      case h_2 => exact decodeInit_rest_suffix _ _ ws
      case h_3 => exact decodeXform_rest_suffix ws
      all_goals exact List.suffix_refl ws
    exact hws.trans (List.suffix_cons w ws)

namespace Machine

theorem State.fetch_rest_suffix (s : State) : s.fetch.rest <:+ s.cmd := decode_rest_suffix s.cmd

/-- What an XFORM writes for the next `m` message bytes after the first `done`: nothing while `CONF = 0`. -/
def State.portionOutput (s : State) (done m : Nat) : List Byte :=
  if s.conf then transformFrom s.engine s.key s.nonce s.ctr done (s.din.take m) else []

theorem State.portionOutput_of_unconfigured {s : State} (h : s.conf = false) (done m : Nat) :
    s.portionOutput done m = [] := by
  simp [portionOutput, h]

theorem State.portionOutput_of_configured {s : State} (h : s.conf = true) (done m : Nat) :
    s.portionOutput done m = transformFrom s.engine s.key s.nonce s.ctr done (s.din.take m) := by
  simp [portionOutput, h]

theorem State.transferBytes_eq_portionOutput (s : State) (done m : Nat) :
    s.transferBytes done m = (s.dinConsumed m).doutWrite (s.portionOutput done m) := by
  cases hc : s.conf
  case false => rw [transferBytes_of_unconfigured hc, portionOutput_of_unconfigured hc, doutWrite, List.append_nil]

  case true => rw [transferBytes_of_configured hc, portionOutput_of_configured hc]

@[simp] theorem State.transferBytes_dout (s : State) (done m : Nat) :
    (s.transferBytes done m).dout = s.dout ++ s.portionOutput done m := by
  simp [transferBytes_eq_portionOutput]

theorem State.portionOutput_length {s : State} (h : s.conf = true) (done m : Nat) :
    (s.portionOutput done m).length = min m s.din.length := by
  simp [portionOutput_of_configured h]

/-- Byte `j` of the output is DIN byte `j` XOR keystream byte `done + j` (R93). -/
theorem State.portionOutput_getD {s : State} (h : s.conf = true) (done m : Nat) {j : Nat}
    (hj : j < (s.portionOutput done m).length) :
    (s.portionOutput done m).getD j 0 = s.din.getD j 0 ^^^ Spec.keystreamByte s.key s.ctr s.nonce (done + j) := by
  rw [portionOutput_length h] at hj
  have hm : j < m := by omega
  have hdin : j < s.din.length := by omega
  simp [portionOutput_of_configured h, transformFrom_eq_mapIdx, hm, hdin]

section
variable (s : State) (len : Word)

@[simp] theorem State.completeXform_cmd : (s.completeXform len).cmd = s.cmd := by
  unfold State.completeXform; split <;> simp
@[simp] theorem State.completeXform_din : (s.completeXform len).din = s.din := by
  unfold State.completeXform; split <;> simp
@[simp] theorem State.completeXform_dout : (s.completeXform len).dout = s.dout := by
  unfold State.completeXform; split <;> simp
@[simp] theorem State.completeXform_pendingXform : (s.completeXform len).pendingXform = none := by
  unfold State.completeXform; split <;> simp

end

theorem State.portionOutput_of_short {s : State} {m : Nat} (h : s.din.length ≤ m) (done : Nat) :
    s.portionOutput done m = s.portionOutput done s.din.length := by
  rw [portionOutput, portionOutput, List.take_of_length_le h, List.take_length]

/-! ### Where an XFORM that goes on leaves the queues, with its message there or not -/

section
variable (s : State) (len : Word) (done : Nat)

@[simp] theorem State.xformFrom_cmd : (s.xformFrom len done).cmd = s.cmd := by
  unfold State.xformFrom; split <;> simp

@[simp] theorem State.xformFrom_din : (s.xformFrom len done).din = s.din.drop (len.toNat - done) := by
  by_cases hshort : done + s.din.length < len.toNat
  · have hdrop : s.din.drop (len.toNat - done) = [] := List.drop_of_length_le (by omega)
    simp [xformFrom_of_short hshort, hdrop]
  · simp [xformFrom_of_enough (Nat.le_of_not_lt hshort)]

@[simp] theorem State.xformFrom_dout :
    (s.xformFrom len done).dout = s.dout ++ s.portionOutput done (len.toNat - done) := by
  by_cases hshort : done + s.din.length < len.toNat
  · have hall : s.din.length ≤ len.toNat - done := by omega
    simp [xformFrom_of_short hshort, portionOutput_of_short hall]
  · simp [xformFrom_of_enough (Nat.le_of_not_lt hshort)]

theorem State.xformFrom_pendingXform :
    (s.xformFrom len done).pendingXform = none ↔ len.toNat ≤ done + s.din.length := by
  by_cases hshort : done + s.din.length < len.toNat
  · simp [xformFrom_of_short hshort, hshort]
  · simp [xformFrom_of_enough (Nat.le_of_not_lt hshort), Nat.le_of_not_lt hshort]

end

end Machine

end Sys2Proof
end

section
/-! PROOF. What a step does at the four ports: it takes from the front of CMD and DIN, and appends to DOUT and RSP what
does not depend on what stands there (R43, R53). -/

namespace Sys2Proof.Machine

/-- `s` with `ds` on DOUT and `rs` on RSP. -/
def State.withOutput (s : State) (ds : List Byte) (rs : List Word) : State := { s with dout := ds, rsp := rs }

/-- Whatever stands on DOUT and RSP, `f` goes on from `s` to the same state and appends the same bytes and words; from CMD
and DIN it takes at the front only. -/
def OnlyAppends (s : State) (f : State → Host.Outcome State Fault Refusal) : Prop :=
  ∃ (t : State) (os : List Byte) (ws : List Word), t.cmd <:+ s.cmd ∧ t.din <:+ s.din ∧
    ∀ ds rs, f (s.withOutput ds rs) = .next (t.withOutput (ds ++ os) (rs ++ ws))

/-- An `f` that consumes and writes nothing but a status word. -/
theorem onlyAppends_of_status {s : State} {f : State → Host.Outcome State Fault Refusal} (t : State) (err : ErrCode)
    (hcmd : t.cmd = s.cmd) (hdin : t.din = s.din)
    (h : ∀ ds rs, f (s.withOutput ds rs) = .next ((t.withOutput ds rs).raiseError err)) : OnlyAppends s f := by
  refine ⟨t, [], [statusWord err t.conf t.engine], hcmd ▸ List.suffix_refl _, hdin ▸ List.suffix_refl _,
    fun ds rs => ?_⟩
  rw [h ds rs, List.append_nil]
  rfl

/-- Equal answers from states with the same DIN, such as before and after the command's words are consumed. -/
theorem OnlyAppends.congr {s u : State} {f g : State → Host.Outcome State Fault Refusal} (h : OnlyAppends u f)
    (hcmd : u.cmd <:+ s.cmd) (hdin : u.din = s.din) (hg : ∀ ds rs, g (s.withOutput ds rs) = f (u.withOutput ds rs)) :
    OnlyAppends s g := by
  obtain ⟨t, os, ws, htcmd, htdin, hf⟩ := h
  exact ⟨t, os, ws, htcmd.trans hcmd, hdin ▸ htdin, fun ds rs => (hg ds rs).trans (hf ds rs)⟩

theorem State.transferBytes_withOutput (s : State) (ds : List Byte) (rs : List Word) (done m : Nat) :
    (s.withOutput ds rs).transferBytes done m =
      (s.transferBytes done m).withOutput (ds ++ s.portionOutput done m) rs := by
  rw [transferBytes_eq_portionOutput, transferBytes_eq_portionOutput]
  rfl

theorem State.forgetWorkAfter_withOutput (s : State) (ds : List Byte) (rs : List Word) (n : Nat) :
    (s.withOutput ds rs).forgetWorkAfter n = (s.forgetWorkAfter n).withOutput ds rs := by
  cases n <;> rfl

/-- The end of an XFORM appends one status word, on either value of `CONF`. -/
theorem State.completeXform_withOutput (s : State) (len : Word) : ∃ w, ∀ ds rs,
    (s.withOutput ds rs).completeXform len = (s.completeXform len).withOutput ds (rs ++ [w]) := by
  cases hc : s.conf
  case false =>
    refine ⟨statusWord .notConfigured s.conf s.engine, fun ds rs => ?_⟩
    rw [completeXform_of_unconfigured hc, completeXform_of_unconfigured (s := s.withOutput ds rs) hc]
    rfl
  case true =>
    have hmsg (ds : List Byte) (rs : List Word) :
        (s.withOutput ds rs).messageArrived = s.messageArrived.withOutput ds rs := rfl
    refine ⟨statusWord .ok (s.messageArrived.forgetWorkAfter (chunkCount len)).conf
      (s.messageArrived.forgetWorkAfter (chunkCount len)).engine, fun ds rs => ?_⟩
    rw [completeXform_of_configured hc, completeXform_of_configured (s := s.withOutput ds rs) hc, hmsg,
      forgetWorkAfter_withOutput]
    rfl

theorem emitKeystream_onlyAppends (s : State) (bs : List Byte) (n : Word) :
    OnlyAppends s fun u => .next (u.emitKeystream bs n) := by
  cases hc : s.conf
  case false =>
    refine onlyAppends_of_status s .notConfigured rfl rfl fun ds rs => ?_
    rw [State.emitKeystream_of_unconfigured (s := s.withOutput ds rs) hc]
  case true =>
    refine ⟨(s.forgetWork.advance n).finish, bs, [statusWord .ok s.conf s.forgetWork.engine], List.suffix_refl _,
      List.suffix_refl _, fun ds rs => congrArg Host.Outcome.next ?_⟩
    rw [State.emitKeystream_of_configured (s := s.withOutput ds rs) hc]
    rfl

/-- An XFORM that goes on appends the output of its portion, and a status word if it completes. -/
theorem State.xformFrom_withOutput (s : State) (len : Word) (done : Nat) : ∃ ws, ∀ ds rs,
    (s.withOutput ds rs).xformFrom len done =
      (s.xformFrom len done).withOutput (ds ++ s.portionOutput done (len.toNat - done)) (rs ++ ws) := by
  by_cases hshort : done + s.din.length < len.toNat
  · have hall : s.din.length ≤ len.toNat - done := by omega
    refine ⟨[], fun ds rs => ?_⟩
    rw [xformFrom_of_short hshort, xformFrom_of_short (s := s.withOutput ds rs) hshort, portionOutput_of_short hall,
      List.append_nil]
    exact congrArg (State.awaitMessage · len _) (s.transferBytes_withOutput ds rs done s.din.length)
  · have henough := Nat.le_of_not_lt hshort
    obtain ⟨w, hw⟩ := (s.transferBytes done (len.toNat - done)).completeXform_withOutput len
    refine ⟨[w], fun ds rs => ?_⟩
    rw [xformFrom_of_enough henough, xformFrom_of_enough (s := s.withOutput ds rs) henough, transferBytes_withOutput, hw]

theorem xformFrom_onlyAppends (s : State) (len : Word) (done : Nat) :
    OnlyAppends s fun u => .next (u.xformFrom len done) := by
  obtain ⟨ws, h⟩ := s.xformFrom_withOutput len done
  have hdin : (s.xformFrom len done).din <:+ s.din := by
    rw [State.xformFrom_din]
    exact List.drop_suffix _ _
  exact ⟨_, _, ws, by simp, hdin, fun ds rs => congrArg Host.Outcome.next (h ds rs)⟩

theorem execInit_onlyAppends (s : State) (key : List Word) (c : Word) (nonce : List Word) :
    OnlyAppends s (execInit key c nonce) := by
  unfold execInit
  split
  case h_1 k n _ _ => exact onlyAppends_of_status (s.loadEngine k c n) .ok rfl rfl fun _ _ => rfl
  case h_2 => exact onlyAppends_of_status s .invalidLength rfl rfl fun _ _ => rfl
  case h_3 => exact onlyAppends_of_status s .invalidLength rfl rfl fun _ _ => rfl

theorem execBlock_onlyAppends (s : State) : OnlyAppends s execBlock :=
  (emitKeystream_onlyAppends s (keystreamBytes s.key s.ctr s.nonce) 1).congr (List.suffix_refl _) rfl fun _ _ => rfl

theorem execBlock2_onlyAppends (s : State) : OnlyAppends s execBlock2 :=
  (emitKeystream_onlyAppends s (pairBytes s.engine s.key s.ctr s.nonce) 2).congr (List.suffix_refl _) rfl fun _ _ => rfl

theorem execWipe_onlyAppends (s : State) : OnlyAppends s execWipe :=
  onlyAppends_of_status s.wipeRegisters .ok rfl rfl fun _ _ => rfl

/-- RDCTR writes the counter behind its status word. -/
theorem execRdctr_onlyAppends (s : State) : OnlyAppends s execRdctr := by
  refine ⟨s, [], [statusWord .ok s.conf s.engine, s.ctr], List.suffix_refl _, List.suffix_refl _, fun ds rs => ?_⟩
  rw [execRdctr, State.finish, State.rspWrite, State.rspWrite, List.append_assoc, List.append_nil]
  rfl

theorem exec_onlyAppends (i : Instr) (s : State) : OnlyAppends s (exec i) := by
  cases i with
  | init key c nonce => exact execInit_onlyAppends s key c nonce
  | xform len => exact xformFrom_onlyAppends s len 0
  | block => exact execBlock_onlyAppends s
  | block2 => exact execBlock2_onlyAppends s
  | rdctr => exact execRdctr_onlyAppends s
  | wipe => exact execWipe_onlyAppends s

theorem step_onlyAppends (s : State) : OnlyAppends s step := by
  cases hp : s.pendingXform with
  | some p =>
    exact (xformFrom_onlyAppends s p.len p.done).congr (List.suffix_refl _) rfl
      fun ds rs => step_of_pending (s := s.withOutput ds rs) hp
  | none =>
    have hrest := s.fetch_rest_suffix
    cases hf : s.fetch with
    | incomplete =>
      refine ⟨s, [], [], List.suffix_refl _, List.suffix_refl _, fun ds rs => ?_⟩
      rw [step_of_incomplete (s := s.withOutput ds rs) hp hf, List.append_nil, List.append_nil]
    | illegal why rest =>
      rw [hf] at hrest
      have hraise : OnlyAppends (s.cmdConsumed rest) fun u => .next (u.raiseError .illegalCmd) :=
        onlyAppends_of_status _ .illegalCmd rfl rfl fun _ _ => rfl
      exact hraise.congr hrest rfl fun ds rs => step_of_illegal (s := s.withOutput ds rs) hp hf
    | command i rest =>
      rw [hf] at hrest
      exact (exec_onlyAppends i (s.cmdConsumed rest)).congr hrest rfl
        fun ds rs => step_of_command (s := s.withOutput ds rs) hp hf

/-- Settles O8: the two cases of `step` that run a command. -/
theorem stepRunsTheDecodedCommand : Obligations.StepRunsTheDecodedCommand :=
  ⟨fun _ _ _ hp hdecode => step_of_command hp hdecode, fun _ _ hp => step_of_pending hp⟩

/-- Settles O10: a step goes on whatever stands on DOUT and RSP, so also with what does stand there. -/
theorem everyStateGoesOn : Obligations.EveryStateGoesOn := by
  intro s
  obtain ⟨t, os, ws, -, -, h⟩ := step_onlyAppends s
  exact ⟨_, h s.dout s.rsp⟩

/-- Settles O11. -/
theorem portsOnlyConsumeAndAppend : Obligations.PortsOnlyConsumeAndAppend := by
  intro s t ht
  obtain ⟨u, os, rs, ⟨ws, hcmd⟩, ⟨bs, hdin⟩, h⟩ := step_onlyAppends s
  cases (h s.dout s.rsp).symm.trans ht
  exact ⟨ws, bs, os, rs, hcmd.symm, hdin.symm, rfl, rfl⟩

/-- Settles O53: what is appended does not depend on what was drained, and lands behind it. -/
theorem drainingOutputChangesNothingElse : Obligations.DrainingOutputChangesNothingElse := by
  intro s t n m hn hm ht
  obtain ⟨u, os, rs, -, -, h⟩ := step_onlyAppends s
  cases (h s.dout s.rsp).symm.trans ht
  have hdrained := h (s.dout.drop n) (s.rsp.drop m)
  rw [← List.drop_append_of_le_length hn, ← List.drop_append_of_le_length hm] at hdrained
  exact hdrained

end Sys2Proof.Machine
end

section
/-! PROOF. A core stuck in an XFORM (R48, R93, R139, R140). -/

namespace Sys2Proof.Machine

/-- Settles O33: short of its message or not, the XFORM writes the output of the portion that is there. -/
theorem waitingXformHoldsNothingBack : Obligations.WaitingXformHoldsNothingBack := by
  intro s p hp
  have hbytes (hc : s.conf = true) := fun j => State.portionOutput_getD hc p.done (p.len.toNat - p.done) (j := j)
  refine ⟨s.xformFrom p.len p.done, s.portionOutput p.done (p.len.toNat - p.done), step_of_pending hp, by simp,
    by simp, by simp, fun hc => State.portionOutput_of_unconfigured hc _ _,
    fun hc => ⟨State.portionOutput_length hc _ _, hbytes hc⟩, ?_, fun hstuck => ?_⟩
  · rw [State.xformFrom_pendingXform]
    omega
  · have hshort : p.done + s.din.length < p.len.toNat := by
      rw [Ne, State.xformFrom_pendingXform] at hstuck
      omega
    have hall : s.din.length ≤ p.len.toNat - p.done := by omega
    rw [State.xformFrom_of_short hshort, State.transferBytes_eq_portionOutput, State.portionOutput_of_short hall,
      State.dinConsumed, List.drop_length]
    rfl

end Sys2Proof.Machine
end

section
/-! PROOF. The order of port transfers inside a command (R43, R46 to R48; log 15). -/

namespace Sys2Proof.Machine

/-! ### Replaying transfers -/

theorem replay_append {xs : List Transfer} {q q' : Queues} (h : replay xs q = some q') (ys : List Transfer) :
    replay (xs ++ ys) q = replay ys q' := by
  induction xs generalizing q with
  | nil => cases h; rfl
  | cons x xs ih =>
    rw [replay] at h
    rw [List.cons_append, replay]
    cases hx : x.apply q with
    | none => rw [hx] at h; cases h
    | some q₁ => rw [hx] at h; exact ih h

theorem replay_cmdReads (ws cmd : List Word) (din dout : List Byte) (rsp : List Word) :
    replay (ws.map .cmdRead) ⟨ws ++ cmd, din, dout, rsp⟩ = some ⟨cmd, din, dout, rsp⟩ := by
  induction ws with
  | nil => rfl
  | cons w ws ih => simpa [replay, Transfer.apply] using ih

theorem replay_dinReads (bs : List Byte) (cmd : List Word) (din dout : List Byte) (rsp : List Word) :
    replay (bs.map .dinRead) ⟨cmd, bs ++ din, dout, rsp⟩ = some ⟨cmd, din, dout, rsp⟩ := by
  induction bs with
  | nil => rfl
  | cons b bs ih => simpa [replay, Transfer.apply] using ih

theorem replay_doutWrites (bs : List Byte) (q : Queues) :
    replay (bs.map .doutWrite) q = some { q with dout := q.dout ++ bs } := by
  induction bs generalizing q with
  | nil => simp [replay]
  | cons b bs ih => simp [replay, Transfer.apply, ih]

/-- Byte in, byte out, as long as there are as many of the one as of the other. -/
theorem replay_interleave (ms os : List Byte) (h : os.length = ms.length) (cmd : List Word) (din dout : List Byte)
    (rsp : List Word) :
    replay (interleave ms os) ⟨cmd, ms ++ din, dout, rsp⟩ = some ⟨cmd, din, dout ++ os, rsp⟩ := by
  induction ms generalizing os dout with
  | nil =>
    obtain rfl := List.length_eq_zero_iff.mp h
    simp [interleave, replay]
  | cons m ms ih =>
    cases os with
    | nil => cases h
    | cons o os => simp [interleave, replay, Transfer.apply, ih os (by simpa using h)]

/-- BLOCK and BLOCK2. -/
theorem replay_keystreamTransfers (s : State) (bs : List Byte) (n : Word) :
    replay (keystreamTransfers s bs) s.queues = some (s.emitKeystream bs n).queues := by
  cases hc : s.conf
  case false =>
    rw [keystreamTransfers, hc, State.emitKeystream_of_unconfigured hc, State.raiseError, hc]
    rfl
  case true =>
    rw [keystreamTransfers, hc, State.emitKeystream_of_configured hc, if_pos rfl, replay_append (replay_doutWrites ..)]
    simp [replay, Transfer.apply, State.queues, hc]

/-- XFORM with its message there. -/
theorem replay_xformTransfers {s : State} {len : Word} (hlen : len.toNat ≤ s.din.length) :
    replay (xformTransfers len s) s.queues = some (s.xformFrom len 0).queues := by
  have hsplit : s.queues = ⟨s.cmd, s.din.take len.toNat ++ s.din.drop len.toNat, s.dout, s.rsp⟩ := by
    rw [List.take_append_drop, State.queues]
  have henough : len.toNat ≤ 0 + s.din.length := by rwa [Nat.zero_add]
  cases hc : s.conf
  case false =>
    rw [xformTransfers, hc, hsplit, if_neg Bool.false_ne_true, replay_append (replay_dinReads ..),
      State.xformFrom_of_unconfigured hc hlen]
    simp [replay, Transfer.apply, State.queues, hc]
  case true =>
    rw [xformTransfers, hc, hsplit, if_pos rfl, replay_append (replay_interleave _ _ (transformFrom_length ..) ..),
      State.xformFrom_of_enough henough, State.completeXform_of_configured (by simpa using hc)]
    simp [replay, Transfer.apply, State.queues, hc, State.portionOutput_of_configured]

theorem exec_replays_bodyTransfers (i : Instr) (s : State) (hlen : i.messageLength ≤ s.din.length) :
    ∃ t, exec i s = .next t ∧ replay (bodyTransfers i s) s.queues = some t.queues := by
  cases i with
  | init key c nonce =>
    obtain ⟨k, n, rfl, rfl, hexec⟩ | ⟨hcounts, hexec⟩ := execInit_cases key c nonce s
    · exact ⟨_, hexec, rfl⟩
    · refine ⟨_, hexec, ?_⟩
      rw [bodyTransfers, if_neg hcounts]
      rfl
  | xform len => exact ⟨_, rfl, replay_xformTransfers hlen⟩
  | block => exact ⟨_, rfl, replay_keystreamTransfers s _ _⟩
  | block2 => exact ⟨_, rfl, replay_keystreamTransfers s _ _⟩
  | rdctr => exact ⟨_, rfl, rfl⟩
  | wipe => exact ⟨_, rfl, by simp [bodyTransfers, replay, Transfer.apply, State.queues]⟩

/-- What a command does after its CMD words does not depend on what stands on CMD. -/
theorem bodyTransfers_cmdConsumed (i : Instr) (s : State) (rest : List Word) :
    bodyTransfers i (s.cmdConsumed rest) = bodyTransfers i s := by
  cases i <;> rfl

/-- Settles O49: the CMD reads bring the queues to where `exec` starts, and the body goes on from there. -/
theorem transfersRefineTheAtomicCommand : Obligations.TransfersRefineTheAtomicCommand := by
  intro i s rest _ hcmd hlen
  obtain ⟨t, hexec, hbody⟩ := exec_replays_bodyTransfers i (s.cmdConsumed rest) hlen
  refine ⟨t, hexec, ?_⟩
  have hreads : replay ((encode i).map .cmdRead) s.queues = some (s.cmdConsumed rest).queues := by
    rw [State.queues, hcmd]
    exact replay_cmdReads (encode i) rest s.din s.dout s.rsp
  rw [transfers, replay_append hreads, ← bodyTransfers_cmdConsumed i s rest, hbody]

/-! ### How far reading is ahead of writing (R48) -/

/-- At every point of `ts`, at most one more byte has been read from DIN than written to DOUT. -/
def ReadsAtMostOneAhead (ts : List Transfer) : Prop :=
  ∀ p, p <+: ts → p.countP Transfer.isDinRead ≤ p.countP Transfer.isDoutWrite + 1

/-- A transfer that reads no DIN byte may come first. -/
theorem ReadsAtMostOneAhead.cons {ts : List Transfer} (h : ReadsAtMostOneAhead ts) {x : Transfer}
    (hread : x.isDinRead = false) : ReadsAtMostOneAhead (x :: ts) := by
  intro p hp
  obtain rfl | ⟨q, rfl, hq⟩ := List.prefix_cons_iff.mp hp
  · simp
  · have := h q hq
    simp only [List.countP_cons, hread, Bool.false_eq_true, if_false]
    omega

/-- So may a byte read with its output byte written right after it. -/
theorem ReadsAtMostOneAhead.byte {ts : List Transfer} (h : ReadsAtMostOneAhead ts) (m o : Byte) :
    ReadsAtMostOneAhead (.dinRead m :: .doutWrite o :: ts) := by
  intro p hp
  obtain rfl | ⟨q, rfl, hq⟩ := List.prefix_cons_iff.mp hp
  · simp
  obtain rfl | ⟨r, rfl, hr⟩ := List.prefix_cons_iff.mp hq
  · simp [List.countP_cons, Transfer.isDinRead]
  · have := h r hr
    simpa [List.countP_cons, Transfer.isDinRead, Transfer.isDoutWrite] using this

theorem ReadsAtMostOneAhead.interleave_append {ts : List Transfer} (h : ReadsAtMostOneAhead ts) (ms os : List Byte) :
    ReadsAtMostOneAhead (interleave ms os ++ ts) := by
  induction ms, os using interleave.induct with
  | case1 m ms o os ih => exact ih.byte m o
  | case2 ms os hne => simpa [interleave] using h

theorem readsAtMostOneAhead_nil : ReadsAtMostOneAhead [] := by
  intro p hp
  simp [List.prefix_nil.mp hp]

theorem readsAtMostOneAhead_xform {s : State} (hc : s.conf = true) (len : Word) :
    ReadsAtMostOneAhead (transfers (.xform len) s) := by
  rw [transfers, bodyTransfers, xformTransfers, if_pos hc]
  exact (((readsAtMostOneAhead_nil.cons rfl).interleave_append _ _).cons rfl).cons rfl

/-- Settles O50: the model's schedule stays one byte ahead at most, within either engine's bound. -/
theorem xformReadsAtMostItsBlocksAhead : Obligations.XformReadsAtMostItsBlocksAhead := by
  intro s len p hc _ hp
  have hone := readsAtMostOneAhead_xform hc len p hp
  split <;> omega

/-! ### The status word comes last (R47) -/

/-- Transfers that write nothing to RSP, then at least one RSP word, then only RSP words. -/
def EndsWithStatus (ts : List Transfer) : Prop :=
  ∃ pre w post, ts = pre ++ .rspWrite w :: post ∧ (∀ x ∈ pre, x.isRspWrite = false) ∧
    ∀ x ∈ post, x.isRspWrite = true

theorem endsWithStatus_words (w : Word) (ws : List Word) : EndsWithStatus (.rspWrite w :: ws.map .rspWrite) :=
  ⟨[], w, ws.map .rspWrite, rfl, by simp, by simp [Transfer.isRspWrite]⟩

theorem EndsWithStatus.append_data {ts : List Transfer} (h : EndsWithStatus ts) {data : List Transfer}
    (hdata : ∀ x ∈ data, x.isRspWrite = false) : EndsWithStatus (data ++ ts) := by
  obtain ⟨pre, w, post, rfl, hpre, hpost⟩ := h
  refine ⟨data ++ pre, w, post, (List.append_assoc ..).symm, fun x hx => ?_, hpost⟩
  obtain hx | hx := List.mem_append.mp hx
  · exact hdata x hx
  · exact hpre x hx

theorem isRspWrite_of_mem_interleave {ms os : List Byte} {x : Transfer} (hx : x ∈ interleave ms os) :
    x.isRspWrite = false := by
  induction ms, os using interleave.induct with
  | case1 m ms o os ih =>
    simp only [interleave, List.mem_cons] at hx
    obtain rfl | rfl | hx := hx
    · rfl
    · rfl
    · exact ih hx
  | case2 ms os hne => simp [interleave] at hx

theorem endsWithStatus_keystream (s : State) (bs : List Byte) : EndsWithStatus (keystreamTransfers s bs) := by
  unfold keystreamTransfers
  split
  · exact (endsWithStatus_words _ []).append_data (List.forall_mem_map.mpr fun _ _ => rfl)
  · exact endsWithStatus_words _ []

theorem endsWithStatus_xform (len : Word) (s : State) : EndsWithStatus (xformTransfers len s) := by
  unfold xformTransfers
  split
  · exact (endsWithStatus_words _ []).append_data fun _ => isRspWrite_of_mem_interleave
  · exact (endsWithStatus_words _ []).append_data (List.forall_mem_map.mpr fun _ _ => rfl)

theorem endsWithStatus_body (i : Instr) (s : State) : EndsWithStatus (bodyTransfers i s) := by
  cases i with
  | init key c nonce =>
    rw [bodyTransfers]
    split
    · exact endsWithStatus_words (statusWord .ok true s.engine) []
    · exact endsWithStatus_words (statusWord .invalidLength s.conf s.engine) []
  | xform len => exact endsWithStatus_xform len s
  | block => exact endsWithStatus_keystream s _
  | block2 => exact endsWithStatus_keystream s _
  | rdctr => exact endsWithStatus_words _ [_]
  | wipe => exact endsWithStatus_words _ []

/-- Settles O51: the CMD reads come before the body, which ends with the status word. -/
theorem statusWordFollowsTheData : Obligations.StatusWordFollowsTheData := fun i s =>
  (endsWithStatus_body i s).append_data (List.forall_mem_map.mpr fun _ _ => rfl)

end Sys2Proof.Machine
end

section
/-! SUPPORT. The decoder, rule by rule: what a first word selects (R57), which words are illegal (R63), INIT's operands
(R58), and how long a command is (R61). -/

namespace Sys2Proof

/-! ### The fields in plain numbers (R55) -/

theorem klenField_toNat (w : Word) : (klenField w).toNat = Spec.klen w := by
  rw [klenField, BitVec.extractLsb'_toNat, Nat.shiftRight_eq_div_pow, Spec.klen]

theorem nlenField_toNat (w : Word) : (nlenField w).toNat = Spec.nlen w := by
  rw [nlenField, BitVec.extractLsb'_toNat, Nat.shiftRight_eq_div_pow, Spec.nlen]

theorem initWord_toNat (k n : Nibble) : (commandWord 0x01 k n).toNat = 1 + 256 * k.toNat + 4096 * n.toNat := by
  revert k n; decide

/-- INIT's opcode and the two counts are all there is in a word with no bit of `RSVD`. -/
theorem eq_initWord_of_fields {w : Word} (hopc : w.toNat % 256 = 1) (hrsvd : w.toNat / 65536 = 0) :
    w = commandWord 0x01 (BitVec.ofNat 4 (Spec.klen w)) (BitVec.ofNat 4 (Spec.nlen w)) := by
  apply BitVec.eq_of_toNat_eq
  rw [initWord_toNat, BitVec.toNat_ofNat, BitVec.toNat_ofNat, Spec.klen, Spec.nlen]
  omega

/-! ### Selecting the command (R57) -/

/-- Mask and match decide: no two rows select one word (`opTable_disjoint`), and no two have one operation. -/
theorem selectOp_eq_some_iff {r : OpRow} (hr : r ∈ opTable) (w : Word) :
    selectOp w = some r.op ↔ w &&& r.mask = r.pattern := by
  have distinct : ∀ a ∈ opTable, ∀ b ∈ opTable, a.op = b.op → a = b := by decide
  have hselects : r.selects w = true ↔ w &&& r.mask = r.pattern := beq_iff_eq
  have hsound {a : OpRow} (hfind : opTable.find? (·.selects w) = some a) : a ∈ opTable ∧ a.selects w = true :=
    ⟨List.mem_of_find?_eq_some hfind, List.find?_some (p := fun r : OpRow => r.selects w) hfind⟩
  rw [← hselects, selectOp, Option.map_eq_some_iff]
  constructor
  · rintro ⟨a, hfind, hop⟩
    obtain ⟨ha, hsel⟩ := hsound hfind
    rwa [← distinct a ha r hr hop]
  · intro hsel
    have hsome : (opTable.find? (·.selects w)).isSome = true := List.find?_isSome.mpr ⟨r, hr, hsel⟩
    obtain ⟨a, hfind⟩ := Option.isSome_iff_exists.mp hsome
    obtain ⟨ha, hasel⟩ := hsound hfind
    exact ⟨a, hfind, congrArg OpRow.op (opTable_disjoint a r ha hr w hasel hsel)⟩

/-- A row whose mask has every bit selects its pattern alone. -/
theorem selectOp_eq_some_iff_eq {op : Op} {p : Word} (hr : ⟨op, BitVec.allOnes 32, p⟩ ∈ opTable) (w : Word) :
    selectOp w = some op ↔ w = p := by
  rw [selectOp_eq_some_iff hr, BitVec.and_allOnes]

section
variable (w : Word)

theorem selectOp_eq_init_iff : selectOp w = some .init ↔ w &&& 0xFFFF00FF#32 = 0x00000001#32 :=
  selectOp_eq_some_iff (r := ⟨.init, 0xFFFF00FF#32, 0x00000001#32⟩) (by decide) w

theorem selectOp_eq_xform_iff : selectOp w = some .xform ↔ w = 0x00000002#32 := selectOp_eq_some_iff_eq (by decide) w

theorem selectOp_eq_block_iff : selectOp w = some .block ↔ w = 0x00000003#32 := selectOp_eq_some_iff_eq (by decide) w

theorem selectOp_eq_block2_iff : selectOp w = some .block2 ↔ w = 0x00000004#32 := selectOp_eq_some_iff_eq (by decide) w

theorem selectOp_eq_rdctr_iff : selectOp w = some .rdctr ↔ w = 0x00000005#32 := selectOp_eq_some_iff_eq (by decide) w

theorem selectOp_eq_wipe_iff : selectOp w = some .wipe ↔ w = 0x00000006#32 := selectOp_eq_some_iff_eq (by decide) w

end

theorem eq_initWord_of_selectOp {w : Word} (h : selectOp w = some .init) :
    w = commandWord 0x01 (BitVec.ofNat 4 (Spec.klen w)) (BitVec.ofNat 4 (Spec.nlen w)) := by
  obtain ⟨hopc, hrsvd⟩ := Machine.initWord_fields ((selectOp_eq_init_iff w).mp h)
  exact eq_initWord_of_fields hopc hrsvd

/-- A word that meets no clause of R63 is an INIT word, or the canonical word of another command: with no length field
and no bit of `RSVD` it is its own opcode. -/
theorem selectOp_ne_none_of_not_isIllegal {w : Word} (h : ¬Spec.IsIllegal w) : selectOp w ≠ none := by
  rw [Spec.IsIllegal, Spec.klen, Spec.nlen] at h
  by_cases hopc : w.toNat % 256 = 1
  · rw [eq_initWord_of_fields hopc (by omega), selectOp_initWord]
    exact Option.some_ne_none _
  · have hcanonical : w = 2#32 ∨ w = 3#32 ∨ w = 4#32 ∨ w = 5#32 ∨ w = 6#32 := by
      simp only [BitVec.toNat_eq, BitVec.toNat_ofNat]
      omega
    rcases hcanonical with rfl | rfl | rfl | rfl | rfl <;> decide

/-! ### INIT's operands (R58) -/

theorem decodeInit_append (key : List Word) (c : Word) (nonce rest : List Word) :
    decodeInit key.length nonce.length (key ++ c :: nonce ++ rest) = .command (.init key c nonce) rest := by
  have hlen : ¬(key ++ c :: nonce ++ rest).length < key.length + 1 + nonce.length := by simp; omega
  rw [decodeInit, if_neg hlen]
  simp

/-- Where `k + 1 + n` words are there, they are `k` words, a word and `n` words. -/
theorem exists_operands_of_length_le {k n : Nat} {ws : List Word} (h : k + 1 + n ≤ ws.length) :
    ∃ key c nonce rest, key.length = k ∧ nonce.length = n ∧ ws = key ++ c :: nonce ++ rest := by
  have hk : k < ws.length := by omega
  refine ⟨ws.take k, ws[k], (ws.drop (k + 1)).take n, (ws.drop (k + 1)).drop n, ?_, ?_, ?_⟩
  · rw [List.length_take]; omega
  · rw [List.length_take, List.length_drop]; omega
  · rw [List.append_assoc, List.cons_append, List.take_append_drop, List.getElem_cons_drop, List.take_append_drop]

/-- INIT's operand words are not all there, or they are read in the order of R58. -/
theorem decodeInit_cases (k n : Nat) (ws : List Word) :
    (ws.length < k + 1 + n ∧ decodeInit k n ws = .incomplete) ∨
      ∃ key c nonce rest, key.length = k ∧ nonce.length = n ∧ ws = key ++ c :: nonce ++ rest ∧
        decodeInit k n ws = .command (.init key c nonce) rest := by
  by_cases h : ws.length < k + 1 + n
  · exact .inl ⟨h, if_pos h⟩
  · obtain ⟨key, c, nonce, rest, rfl, rfl, rfl⟩ := exists_operands_of_length_le (Nat.le_of_not_lt h)
    exact .inr ⟨key, c, nonce, rest, rfl, rfl, rfl, decodeInit_append key c nonce rest⟩

/-! ### A command and its own encoding (R55 to R60) -/

theorem Instr.wellFormed_init_iff (key : List Word) (c : Word) (nonce : List Word) :
    (Instr.init key c nonce).WellFormed ↔ key.length ≤ 15 ∧ nonce.length ≤ 15 :=
  and_congr decide_eq_true_iff decide_eq_true_iff

theorem decode_encode_append {i : Instr} (h : i.WellFormed) (rest : List Word) :
    decode (encode i ++ rest) = .command i rest := by
  cases i with
  | init key c nonce =>
    obtain ⟨hk, hn⟩ := (Instr.wellFormed_init_iff key c nonce).mp h
    have hklen : (BitVec.ofNat 4 key.length).toNat = key.length := by rw [BitVec.toNat_ofNat]; omega
    have hnlen : (BitVec.ofNat 4 nonce.length).toNat = nonce.length := by rw [BitVec.toNat_ofNat]; omega
    rw [encode, List.cons_append, decode, selectOp_initWord, klenField_initWord, nlenField_initWord, hklen, hnlen]
    exact decodeInit_append key c nonce rest
  | xform len => rfl
  | block => rfl
  | block2 => rfl
  | rdctr => rfl
  | wipe => rfl

/-- An INIT word with its operands is the encoding of that INIT, its counts being the words' own. -/
theorem cons_initOperands_eq_encode {w : Word} (h : selectOp w = some .init) {key nonce : List Word}
    (hk : key.length = Spec.klen w) (hn : nonce.length = Spec.nlen w) (c : Word) (rest : List Word) :
    (Instr.init key c nonce).WellFormed ∧ w :: (key ++ c :: nonce ++ rest) = encode (.init key c nonce) ++ rest := by
  constructor
  · rw [Instr.wellFormed_init_iff, hk, hn, Spec.klen, Spec.nlen]
    omega
  · rw [encode, hk, hn, ← eq_initWord_of_selectOp h, List.cons_append]

/-! ### The length of a command (R61) -/

theorem commandLength_eq_cmdLength (w : Word) : commandLength w = Spec.cmdLength w := by
  rw [commandLength, Spec.cmdLength, ← klenField_toNat, ← nlenField_toNat]
  simp only [← selectOp_eq_init_iff, ← selectOp_eq_xform_iff]
  cases selectOp w with
  | none => rfl
  | some op => cases op <;> rfl

theorem length_encode {i : Instr} (h : i.WellFormed) : (encode i).length = commandLength ((encode i).headD 0) := by
  cases i with
  | init key c nonce => exact Laws.EncodingLength.init key c nonce h
  | xform len => exact Laws.EncodingLength.xform len h
  | block => exact Laws.EncodingLength.block h
  | block2 => exact Laws.EncodingLength.block2 h
  | rdctr => exact Laws.EncodingLength.rdctr h
  | wipe => exact Laws.EncodingLength.wipe h

/-- The encoding that a stream begins with is as long as the stream's first word tells. -/
theorem length_encode_of_eq_encode {i : Instr} (hi : i.WellFormed) {w : Word} {ws rest : List Word}
    (h : w :: ws = encode i ++ rest) : (encode i).length = commandLength w := by
  have hhead : (encode i).headD 0 = w := by
    cases i <;> exact (List.cons.inj h).1.symm
  rw [length_encode hi, hhead]

/-- The second word of an XFORM is its message's length; no other command has a message. -/
theorem messageLength_of_eq_encode {i : Instr} {w : Word} {ws rest : List Word} (h : w :: ws = encode i ++ rest) :
    i.messageLength = if w = 2#32 then (ws.headD 0).toNat else 0 := by
  cases i with
  | init key c nonce =>
    cases h
    have hne : commandWord 0x01 (BitVec.ofNat 4 key.length) (BitVec.ofNat 4 nonce.length) ≠ 2#32 := by
      rw [Ne, ← selectOp_eq_xform_iff, selectOp_initWord]
      decide
    exact (if_neg hne).symm
  | xform len => cases h; rfl
  | block => cases h; rfl
  | block2 => cases h; rfl
  | rdctr => cases h; rfl
  | wipe => cases h; rfl

/-! ### What the decoder can answer -/

/-- An illegal word, a command short of operand words, or a whole command in its own encoding. -/
theorem decode_cases (w : Word) (ws : List Word) :
    (selectOp w = none ∧ decode (w :: ws) = .illegal (illegalReason w) ws) ∨
      ((w :: ws).length < commandLength w ∧ decode (w :: ws) = .incomplete) ∨
      ∃ i rest, i.WellFormed ∧ w :: ws = encode i ++ rest ∧ decode (w :: ws) = .command i rest := by
  cases hop : selectOp w with
  | none => exact .inl ⟨rfl, by rw [decode, hop]⟩
  | some op =>
    right
    cases op with
    | init =>
      have hinit : decode (w :: ws) = decodeInit (Spec.klen w) (Spec.nlen w) ws := by
        rw [decode, hop, ← klenField_toNat, ← nlenField_toNat]
      obtain ⟨hshort, hdecode⟩ | ⟨key, c, nonce, rest, hk, hn, rfl, hdecode⟩ :=
        decodeInit_cases (Spec.klen w) (Spec.nlen w) ws
      · refine .inl ⟨?_, hinit.trans hdecode⟩
        have hlen : commandLength w = 2 + Spec.klen w + Spec.nlen w := by
          rw [commandLength, hop, klenField_toNat, nlenField_toNat]
        rw [hlen, List.length_cons]
        omega
      · obtain ⟨hwf, henc⟩ := cons_initOperands_eq_encode hop hk hn c rest
        exact .inr ⟨_, rest, hwf, henc, hinit.trans hdecode⟩
    | xform =>
      obtain rfl := (selectOp_eq_xform_iff w).mp hop
      cases ws with
      | nil => exact .inl ⟨by decide, rfl⟩
      | cons len rest => exact .inr ⟨.xform len, rest, ⟨rfl, rfl⟩, rfl, rfl⟩
    | block =>
      obtain rfl := (selectOp_eq_block_iff w).mp hop
      exact .inr ⟨.block, ws, ⟨rfl, rfl⟩, rfl, rfl⟩
    | block2 =>
      obtain rfl := (selectOp_eq_block2_iff w).mp hop
      exact .inr ⟨.block2, ws, ⟨rfl, rfl⟩, rfl, rfl⟩
    | rdctr =>
      obtain rfl := (selectOp_eq_rdctr_iff w).mp hop
      exact .inr ⟨.rdctr, ws, ⟨rfl, rfl⟩, rfl, rfl⟩
    | wipe =>
      obtain rfl := (selectOp_eq_wipe_iff w).mp hop
      exact .inr ⟨.wipe, ws, ⟨rfl, rfl⟩, rfl, rfl⟩

theorem eq_encode_of_decode {ws : List Word} {i : Instr} {rest : List Word} (h : decode ws = .command i rest) :
    i.WellFormed ∧ ws = encode i ++ rest := by
  cases ws with
  | nil => cases h
  | cons w ws =>
    obtain ⟨-, hdecode⟩ | ⟨-, hdecode⟩ | ⟨j, rest', hj, henc, hdecode⟩ := decode_cases w ws
    · cases hdecode.symm.trans h
    · cases hdecode.symm.trans h
    · cases hdecode.symm.trans h
      exact ⟨hj, henc⟩

/-- Only a word that selects no command decodes as illegal, and it is consumed alone. -/
theorem selectOp_of_decode_illegal {w : Word} {ws rest : List Word} {why : IllegalReason}
    (h : decode (w :: ws) = .illegal why rest) : selectOp w = none ∧ rest = ws := by
  obtain ⟨hnone, hdecode⟩ | ⟨-, hdecode⟩ | ⟨_, _, -, -, hdecode⟩ := decode_cases w ws
  · cases hdecode.symm.trans h
    exact ⟨hnone, rfl⟩
  · cases hdecode.symm.trans h
  · cases hdecode.symm.trans h

theorem decode_illegal_iff (w : Word) (ws : List Word) :
    (∃ why rest, decode (w :: ws) = .illegal why rest) ↔ Spec.IsIllegal w := by
  constructor
  · rintro ⟨why, rest, h⟩
    obtain ⟨hnone, -⟩ := selectOp_of_decode_illegal h
    exact Classical.byContradiction fun hlegal => selectOp_ne_none_of_not_isIllegal hlegal hnone
  · exact fun h => ⟨_, _, Machine.decode_of_isIllegal h ws⟩

theorem decode_incomplete_iff (w : Word) (ws : List Word) :
    decode (w :: ws) = .incomplete ↔ (w :: ws).length < commandLength w := by
  obtain ⟨hnone, hdecode⟩ | ⟨hshort, hdecode⟩ | ⟨i, rest, hi, henc, hdecode⟩ := decode_cases w ws
  · simp [hdecode, commandLength, hnone]
  · exact iff_of_true hdecode hshort
  · have hlen : commandLength w ≤ (w :: ws).length := by simp [← length_encode_of_eq_encode hi henc, henc]
    exact iff_of_false (by simp [hdecode]) (Nat.not_lt.mpr hlen)

namespace Machine

/-! ### What a command takes -/

@[simp] theorem State.emitKeystream_cmd (s : State) (bs : List Byte) (n : Word) :
    (s.emitKeystream bs n).cmd = s.cmd := by
  unfold State.emitKeystream; split <;> rfl
@[simp] theorem State.emitKeystream_din (s : State) (bs : List Byte) (n : Word) :
    (s.emitKeystream bs n).din = s.din := by
  unfold State.emitKeystream; split <;> rfl

/-- A command takes nothing more from CMD, and its message from DIN. -/
theorem exec_takes (i : Instr) (s : State) :
    ∃ t, exec i s = .next t ∧ t.cmd = s.cmd ∧ t.din = s.din.drop i.messageLength := by
  cases i with
  | init key c nonce =>
    obtain ⟨k, n, -, -, hexec⟩ | ⟨-, hexec⟩ := execInit_cases key c nonce s
    · exact ⟨_, hexec, rfl, rfl⟩
    · exact ⟨_, hexec, rfl, rfl⟩
  | xform len => exact ⟨_, rfl, s.xformFrom_cmd len 0, s.xformFrom_din len 0⟩
  | block => exact ⟨_, rfl, s.emitKeystream_cmd _ _, s.emitKeystream_din _ _⟩
  | block2 => exact ⟨_, rfl, s.emitKeystream_cmd _ _, s.emitKeystream_din _ _⟩
  | rdctr => exact ⟨_, rfl, rfl, rfl⟩
  | wipe => exact ⟨_, rfl, rfl, rfl⟩

theorem step_takes {s : State} {i : Instr} {rest : List Word} (hp : s.pendingXform = none)
    (h : decode s.cmd = .command i rest) :
    ∃ t, step s = .next t ∧ t.cmd = rest ∧ t.din = s.din.drop i.messageLength := by
  rw [step_of_command hp h]
  exact exec_takes i (s.cmdConsumed rest)

end Machine

end Sys2Proof
end

section
/-! PROOF. The encoding of commands (30_encoding.md R55 to R63). -/

namespace Sys2Proof.Machine

/-- Settles O1: the first word selects the command, and its counts split INIT's operands where they were joined. -/
theorem decodeOfEncodeGivesTheInstruction : Obligations.DecodeOfEncodeGivesTheInstruction :=
  fun _ rest hi => decode_encode_append hi rest

/-- Settles O2: of the three answers of `decode_cases`, a command comes with its encoding. -/
theorem decodedCommandsAreExactlyEncodings : Obligations.DecodedCommandsAreExactlyEncodings :=
  fun _ _ _ h => eq_encode_of_decode h

/-- Settles O3, row by row. -/
theorem commandWordSelectsByMaskAndMatch : Obligations.CommandWordSelectsByMaskAndMatch := fun w =>
  ⟨selectOp_eq_init_iff w, selectOp_eq_xform_iff w, selectOp_eq_block_iff w, selectOp_eq_block2_iff w,
    selectOp_eq_rdctr_iff w, selectOp_eq_wipe_iff w⟩

/-- Settles O4: the decoder finds the word illegal, and the step refuses it as an error that writes no state. -/
theorem illegalWordIsConsumedAloneAndReported : Obligations.IllegalWordIsConsumedAloneAndReported := by
  refine fun w ws => ⟨decode_illegal_iff w ws, fun s hp hcmd hill => ?_⟩
  have hfetch : s.fetch = .illegal (illegalReason w) ws := by rw [State.fetch, hcmd, decode_of_isIllegal hill]
  rw [step_of_illegal hp hfetch, State.refuseWord, State.raiseError_eq_status]
  rfl

/-- Settles O5: the words are the encoding of that INIT, which decodes to it whatever its counts. -/
theorem initReadsAllItsOperandsInOrder : Obligations.InitReadsAllItsOperandsInOrder := by
  intro s w k c n rest hw hk hn hp hcmd
  obtain ⟨hwf, henc⟩ := cons_initOperands_eq_encode ((selectOp_eq_init_iff w).mpr hw) hk hn c rest
  have hdecode : decode s.cmd = .command (.init k c n) rest := by rw [hcmd, henc, decode_encode_append hwf]
  obtain ⟨t, hstep, hrest, -⟩ := step_takes hp hdecode
  exact ⟨hdecode, t, hstep, hrest⟩

/-- Settles O6: a command's length and message are those of its encoding, which is what the decoder has read. -/
theorem commandLengthIsKnownFromTheFirstWord : Obligations.CommandLengthIsKnownFromTheFirstWord := by
  refine fun w ws => ⟨?_, fun i rest h => ?_, fun why rest h => ?_, fun s i rest _ ⟨hp, h, _⟩ => step_takes hp h⟩
  · rw [← commandLength_eq_cmdLength, decode_incomplete_iff]
  · obtain ⟨hi, henc⟩ := eq_encode_of_decode h
    refine ⟨?_, messageLength_of_eq_encode henc⟩
    rw [← commandLength_eq_cmdLength, ← length_encode_of_eq_encode hi henc, henc, List.drop_left]
  · obtain ⟨hnone, rfl⟩ := selectOp_of_decode_illegal h
    rw [← commandLength_eq_cmdLength, commandLength, hnone, List.drop_one, List.tail_cons]

/-- Settles O7, by running the decoder on the five streams. -/
theorem sampleWordsDecode : Obligations.SampleWordsDecode := ⟨rfl, rfl, rfl, rfl, rfl⟩

end Sys2Proof.Machine
end

section
/-! SUPPORT. The bytes of a word, the byte swap (40_state_init.md R68) and the words that bytes fill (20_memory.md R37). -/

namespace Sys2Proof.Machine

/-! ### The bytes of a word -/

/-- A word filled from bytes takes the first as its most significant (R37); keystream gives out the least significant
first (R39). -/
theorem wordBytes_wordOfBytes (b0 b1 b2 b3 : Byte) : wordBytes (wordOfBytes b0 b1 b2 b3) = [b3, b2, b1, b0] := by
  have h3 : (wordOfBytes b0 b1 b2 b3).extractLsb' 0 8 = b3 := BitVec.extractLsb'_append_eq_right
  have h2 : (wordOfBytes b0 b1 b2 b3).extractLsb' 8 8 = b2 :=
    (BitVec.extractLsb'_append_eq_of_le (by decide)).trans BitVec.extractLsb'_append_eq_right
  have h1 : (wordOfBytes b0 b1 b2 b3).extractLsb' 16 8 = b1 :=
    (BitVec.extractLsb'_append_eq_of_le (by decide)).trans
      ((BitVec.extractLsb'_append_eq_of_le (by decide)).trans BitVec.extractLsb'_append_eq_right)
  have h0 : (wordOfBytes b0 b1 b2 b3).extractLsb' 24 8 = b0 :=
    (BitVec.extractLsb'_append_eq_of_le (by decide)).trans
      ((BitVec.extractLsb'_append_eq_of_le (by decide)).trans BitVec.extractLsb'_append_eq_left)
  rw [wordBytes, h3, h2, h1, h0]

/-- The byte swap of R68 joins the same four bytes in the other order. -/
theorem bswap32_wordOfBytes (b0 b1 b2 b3 : Byte) : bswap32 (wordOfBytes b0 b1 b2 b3) = wordOfBytes b3 b2 b1 b0 := by
  have hbytes := wordBytes_wordOfBytes b0 b1 b2 b3
  simp only [wordBytes, List.cons.injEq, and_true] at hbytes
  obtain ⟨h3, h2, h1, h0⟩ := hbytes
  rw [bswap32, h3, h2, h1, h0, wordOfBytes]

theorem exists_eq_wordOfBytes (x : Word) : ∃ b0 b1 b2 b3, x = wordOfBytes b0 b1 b2 b3 := by
  refine ⟨x.extractLsb' 24 8, x.extractLsb' 16 8, x.extractLsb' 8 8, x.extractLsb' 0 8, ?_⟩
  have hupper : x.extractLsb' 24 8 ++ x.extractLsb' 16 8 = x.extractLsb' 16 16 :=
    BitVec.extractLsb'_append_extractLsb'_eq_extractLsb' rfl
  have hupper3 : x.extractLsb' 16 16 ++ x.extractLsb' 8 8 = x.extractLsb' 8 24 :=
    BitVec.extractLsb'_append_extractLsb'_eq_extractLsb' rfl
  have hall : x.extractLsb' 8 24 ++ x.extractLsb' 0 8 = x.extractLsb' 0 32 :=
    BitVec.extractLsb'_append_extractLsb'_eq_extractLsb' rfl
  rw [wordOfBytes, hupper, hupper3, hall, BitVec.extractLsb'_eq_self]

@[simp] theorem bswap32_bswap32 (x : Word) : bswap32 (bswap32 x) = x := by
  obtain ⟨b0, b1, b2, b3, rfl⟩ := exists_eq_wordOfBytes x
  rw [bswap32_wordOfBytes, bswap32_wordOfBytes]

/-- The bytes of a word that is not swapped: the counter's (R38). -/
theorem wordBytes_eq_map_range (w : Word) :
    wordBytes w = (List.range 4).map fun j => BitVec.ofNat 8 (w.toNat / 2 ^ (8 * j)) := by
  simp [wordBytes, BitVec.extractLsb', Nat.shiftRight_eq_div_pow, List.range_succ]

/-! ### The words that bytes fill -/

/-- Bytes in whole groups of four fill one word a group (R37), and come back in order from the swapped words (R69). -/
theorem wordsOfBytes_of_length (n : Nat) : ∀ bs : List Byte, bs.length = 4 * n →
    (wordsOfBytes bs).length = n ∧ (wordsOfBytes bs).flatMap (fun w => wordBytes (bswap32 w)) = bs := by
  induction n with
  | zero => exact fun bs h => List.length_eq_zero_iff.mp h ▸ ⟨rfl, rfl⟩
  | succ n ih =>
    intro bs h
    match bs, h with
    | b0 :: b1 :: b2 :: b3 :: bs, h =>
      obtain ⟨hlen, hbytes⟩ := ih bs (by simpa [Nat.mul_succ] using h)
      rw [wordsOfBytes, List.length_cons, List.flatMap_cons, hlen, hbytes, bswap32_wordOfBytes, wordBytes_wordOfBytes]
      exact ⟨rfl, rfl⟩

theorem exists_keyOfWords_of_length {ws : List Word} (h : ws.length = 8) : ∃ k, keyOfWords ws = some k :=
  Option.ne_none_iff_exists'.mp fun hnone => keyOfWords_eq_none.mp hnone h

theorem exists_nonceOfWords_of_length {ws : List Word} (h : ws.length = 3) : ∃ n, nonceOfWords ws = some n :=
  Option.ne_none_iff_exists'.mp fun hnone => nonceOfWords_eq_none.mp hnone h

/-! ### The state matrix and INIT -/

theorem toList_initState (k : Key) (c : Word) (n : Nonce) :
    (initState k c n).toList = [0x61707865#32, 0x3320646e#32, 0x79622d32#32, 0x6b206574#32] ++
      k.toList.map bswap32 ++ [c] ++ n.toList.map bswap32 := rfl

/-- The rows of R72: the text `expand 32-byte k` (R71), the swapped key words, the counter, the swapped nonce words. -/
theorem serialize_initState (k : Key) (c : Word) (n : Nonce) :
    serialize (initState k c n) =
      [0x65, 0x78, 0x70, 0x61, 0x6e, 0x64, 0x20, 0x33, 0x32, 0x2d, 0x62, 0x79, 0x74, 0x65, 0x20, 0x6b] ++
        k.toList.flatMap (fun w => wordBytes (bswap32 w)) ++ wordBytes c ++
          n.toList.flatMap (fun w => wordBytes (bswap32 w)) := by
  have hsigma : [0x61707865#32, 0x3320646e#32, 0x79622d32#32, 0x6b206574#32].flatMap wordBytes =
      [0x65, 0x78, 0x70, 0x61, 0x6e, 0x64, 0x20, 0x33, 0x32, 0x2d, 0x62, 0x79, 0x74, 0x65, 0x20, 0x6b] := by decide
  rw [serialize, toList_initState, List.flatMap_append, List.flatMap_append, List.flatMap_append, hsigma,
    List.flatMap_map, List.flatMap_map, List.flatMap_singleton]

theorem State.finish_eq_status (s : State) :
    s.finish = { s with rsp := s.rsp ++ [Spec.status 0 s.conf s.engine] } :=
  s.raiseError_eq_status .ok

end Sys2Proof.Machine
end

section
/-! PROOF. The byte swap, the state matrix and INIT (40_state_init.md R69 to R74). -/

namespace Sys2Proof.Machine

/-- Settles O14: each part of the matrix gives back the bytes its words were filled from. -/
theorem stateMatrixSpellsKeyAndNonceBytes : Obligations.StateMatrixSpellsKeyAndNonceBytes := by
  intro kb nb hkb hnb
  obtain ⟨hkw, hkeyBytes⟩ := wordsOfBytes_of_length 8 kb hkb
  obtain ⟨hnw, hnonceBytes⟩ := wordsOfBytes_of_length 3 nb hnb
  obtain ⟨k, hk⟩ := exists_keyOfWords_of_length hkw
  obtain ⟨n, hn⟩ := exists_nonceOfWords_of_length hnw
  refine ⟨k, n, hk, hn, fun c => ?_⟩
  rw [serialize_initState, ← keyOfWords_eq_some hk, ← nonceOfWords_eq_some hn, hkeyBytes, hnonceBytes,
    wordBytes_eq_map_range]

/-- Settles O15: the general law, and the three values by evaluation. -/
theorem byteSwapUndoesItself : Obligations.ByteSwapUndoesItself := ⟨bswap32_bswap32, rfl, rfl, rfl⟩

/-- Settles O12: these counts are R74's, so INIT loads the engine and reports success. -/
theorem initLoadsTheEngine : Obligations.InitLoadsTheEngine := by
  intro s k0 k1 k2 k3 k4 k5 k6 k7 c n0 n1 n2
  have hexec := execInit_of_counts ⟨k0, k1, k2, k3, k4, k5, k6, k7⟩ c ⟨n0, n1, n2⟩ s
  rw [State.finish_eq_status] at hexec
  exact hexec

end Sys2Proof.Machine
end

section
/-! SUPPORT. The circular shift and the quarter round (41_permutation.md R77 to R81). -/

namespace Sys2Proof.Machine

/-! ### The circular shift -/

/-- Inside a word's width the shift of R77 is the library's rotation. -/
theorem rotl_eq_rotateLeft (x : Word) {s : Nat} (h : s < 32) : rotl x s = x.rotateLeft s := by
  rw [rotl, BitVec.rotateLeft_def, Nat.mod_eq_of_lt h]

/-- R77's formula in plain numbers. -/
theorem toNat_rotl (x : Word) (s : Nat) :
    (rotl x s).toNat = (x.toNat * 2 ^ s % 2 ^ 32) ||| (x.toNat / 2 ^ (32 - s)) := by
  rw [rotl, BitVec.toNat_or, BitVec.toNat_shiftLeft, BitVec.toNat_ushiftRight, Nat.shiftLeft_eq,
    Nat.shiftRight_eq_div_pow]

/-- Bit `i` moves up by `s` places, and from the top around to the bottom. -/
theorem getLsbD_rotl_add_mod (x : Word) {s i : Nat} (hs : s < 32) (hi : i < 32) :
    (rotl x s).getLsbD ((i + s) % 32) = x.getLsbD i := by
  rw [rotl_eq_rotateLeft x hs, BitVec.getLsbD_rotateLeft, Nat.mod_eq_of_lt hs]
  obtain hstay | haround : i + s < 32 ∨ 32 ≤ i + s := by omega
  · have hmod : (i + s) % 32 = i + s := Nat.mod_eq_of_lt hstay
    have hnot : ¬i + s < s := by omega
    rw [hmod, decide_eq_false hnot, decide_eq_true hstay, cond_false, Bool.true_and, Nat.add_sub_cancel]
  · have hmod : (i + s) % 32 = i + s - 32 := by omega
    have hlow : i + s - 32 < s := by omega
    have hfrom : 32 - s + (i + s - 32) = i := by omega
    rw [hmod, decide_eq_true hlow, cond_true, hfrom]

/-- A circular shift is undone by the one that completes the turn. -/
theorem rotl_rotl_sub (x : Word) {s : Nat} (h0 : 0 < s) (h : s < 32) : rotl (rotl x s) (32 - s) = x := by
  refine BitVec.eq_of_getLsbD_eq fun i hi => ?_
  have hturn : ((i + s) % 32 + (32 - s)) % 32 = i := by omega
  have hback := getLsbD_rotl_add_mod (rotl x s) (s := 32 - s) (by omega) (Nat.mod_lt (i + s) (by decide))
  rwa [hturn, getLsbD_rotl_add_mod x h hi] at hback

theorem rotl_sub_rotl (x : Word) {s : Nat} (h0 : 0 < s) (h : s < 32) : rotl (rotl x (32 - s)) s = x := by
  have hback := rotl_rotl_sub x (s := 32 - s) (by omega) (by omega)
  rwa [Nat.sub_sub_self (Nat.le_of_lt h)] at hback

/-! ### The steps of a quarter round -/

/-- One addition and one exclusive or with shift of R79; the words change places, so that the next such step works on
`c`, `d` and `b`. -/
def quarterStep (s : Nat) (q : Word × Word × Word × Word) : Word × Word × Word × Word :=
  let (a, b, c, d) := q
  (c, rotl (d ^^^ (a + b)) s, a + b, b)

/-- A quarter step undone from the words it leaves (R81). -/
def undoQuarterStep (s : Nat) (q : Word × Word × Word × Word) : Word × Word × Word × Word :=
  let (c, d, a, b) := q
  (a - b, b, c, rotl d (32 - s) ^^^ a)

/-- `QR` is four such steps, and after the fourth the words are in place again. -/
theorem quarterRound_eq_quarterSteps (a b c d : Word) :
    quarterRound a b c d = quarterStep 7 (quarterStep 8 (quarterStep 12 (quarterStep 16 (a, b, c, d)))) := rfl

theorem undoQuarterStep_quarterStep {s : Nat} (h0 : 0 < s) (h : s < 32) (q : Word × Word × Word × Word) :
    undoQuarterStep s (quarterStep s q) = q := by
  simp only [quarterStep, undoQuarterStep, rotl_rotl_sub _ h0 h, BitVec.add_sub_cancel, BitVec.xor_assoc,
    BitVec.xor_self, BitVec.xor_zero]

theorem quarterStep_undoQuarterStep {s : Nat} (h0 : 0 < s) (h : s < 32) (q : Word × Word × Word × Word) :
    quarterStep s (undoQuarterStep s q) = q := by
  simp only [quarterStep, undoQuarterStep, rotl_sub_rotl _ h0 h, BitVec.sub_add_cancel, BitVec.xor_assoc,
    BitVec.xor_self, BitVec.xor_zero]

/-- The four steps of `QR` undone, the last one first. -/
def undoQuarterRound (q : Word × Word × Word × Word) : Word × Word × Word × Word :=
  undoQuarterStep 16 (undoQuarterStep 12 (undoQuarterStep 8 (undoQuarterStep 7 q)))

theorem undoQuarterRound_quarterRound (a b c d : Word) : undoQuarterRound (quarterRound a b c d) = (a, b, c, d) := by
  rw [quarterRound_eq_quarterSteps, undoQuarterRound, undoQuarterStep_quarterStep (by decide) (by decide),
    undoQuarterStep_quarterStep (by decide) (by decide), undoQuarterStep_quarterStep (by decide) (by decide),
    undoQuarterStep_quarterStep (by decide) (by decide)]

theorem quarterRound_undoQuarterRound (q : Word × Word × Word × Word) :
    quarterRound (undoQuarterRound q).1 (undoQuarterRound q).2.1 (undoQuarterRound q).2.2.1
      (undoQuarterRound q).2.2.2 = q := by
  rw [quarterRound_eq_quarterSteps, undoQuarterRound, quarterStep_undoQuarterStep (by decide) (by decide),
    quarterStep_undoQuarterStep (by decide) (by decide), quarterStep_undoQuarterStep (by decide) (by decide),
    quarterStep_undoQuarterStep (by decide) (by decide)]

end Sys2Proof.Machine
end

section
/-! SUPPORT. The words of a matrix, quarter rounds on index sets that share no word, and double rounds in succession
(41_permutation.md R80 to R85). -/

namespace Sys2Proof.Machine

/-! ### Reading and writing the words of a matrix -/

theorem WordMatrix.eq_of_toList_eq {a b : WordMatrix} (h : a.toList = b.toList) : a = b := by
  cases a
  cases b
  simp only [toList, List.cons.injEq, and_true] at h
  simp only [mk.injEq]
  exact h

theorem WordMatrix.toList_getElem? (m : WordMatrix) {i : Nat} (h : i < 16) : m.toList[i]? = some (m.get i) := by
  match i, h with
  | 0, _ | 1, _ | 2, _ | 3, _ | 4, _ | 5, _ | 6, _ | 7, _ => rfl
  | 8, _ | 9, _ | 10, _ | 11, _ | 12, _ | 13, _ | 14, _ | 15, _ => rfl
  | _ + 16, h => omega

theorem WordMatrix.toList_set (m : WordMatrix) {i : Nat} (h : i < 16) (v : Word) :
    (m.set i v).toList = m.toList.set i v := by
  match i, h with
  | 0, _ | 1, _ | 2, _ | 3, _ | 4, _ | 5, _ | 6, _ | 7, _ => rfl
  | 8, _ | 9, _ | 10, _ | 11, _ | 12, _ | 13, _ | 14, _ | 15, _ => rfl
  | _ + 16, h => omega

/-- The feed-forward adds word by word (R87). -/
theorem WordMatrix.get_add (a b : WordMatrix) (i : Nat) : (a.add b).get i = a.get i + b.get i := by
  unfold get
  split <;> rfl

/-- `i` and `j` name two words of a matrix. -/
abbrev DistinctWords (i j : Nat) : Prop := i < 16 ∧ j < 16 ∧ i ≠ j

theorem DistinctWords.symm {i j : Nat} : DistinctWords i j → DistinctWords j i :=
  fun ⟨hi, hj, hne⟩ => ⟨hj, hi, hne.symm⟩

theorem WordMatrix.get_set_of_distinct (m : WordMatrix) {i j : Nat} (h : DistinctWords i j) (v : Word) :
    (m.set j v).get i = m.get i := by
  obtain ⟨hi, hj, hne⟩ := h
  have hget := (m.set j v).toList_getElem? hi
  rw [m.toList_set hj, List.getElem?_set_ne hne.symm, m.toList_getElem? hi] at hget
  exact (Option.some.inj hget).symm

theorem WordMatrix.set_comm (m : WordMatrix) {i j : Nat} (h : DistinctWords i j) (v w : Word) :
    (m.set i v).set j w = (m.set j w).set i v := by
  obtain ⟨hi, hj, hne⟩ := h
  apply eq_of_toList_eq
  rw [toList_set _ hj, toList_set _ hi, toList_set _ hi, toList_set _ hj, List.set_comm _ _ hne]

/-! ### A quarter round leaves the other words alone -/

section
variable (m : WordMatrix) {x j0 j1 j2 j3 : Nat} (h : ∀ j ∈ [j0, j1, j2, j3], DistinctWords x j)
include h

theorem WordMatrix.get_quarterRoundAt_of_distinct : (m.quarterRoundAt j0 j1 j2 j3).get x = m.get x := by
  simp only [List.forall_mem_cons] at h
  obtain ⟨h0, h1, h2, h3, -⟩ := h
  rw [quarterRoundAt, get_set_of_distinct _ h3, get_set_of_distinct _ h2, get_set_of_distinct _ h1,
    get_set_of_distinct _ h0]

theorem WordMatrix.quarterRoundAt_set_of_distinct (v : Word) :
    (m.set x v).quarterRoundAt j0 j1 j2 j3 = (m.quarterRoundAt j0 j1 j2 j3).set x v := by
  simp only [List.forall_mem_cons] at h
  obtain ⟨h0, h1, h2, h3, -⟩ := h
  rw [quarterRoundAt, get_set_of_distinct _ h0.symm, get_set_of_distinct _ h1.symm, get_set_of_distinct _ h2.symm,
    get_set_of_distinct _ h3.symm, set_comm _ h0, set_comm _ h1, set_comm _ h2, set_comm _ h3, quarterRoundAt]

end

/-- The four indices of an index set. -/
abbrev indices (q : Nat × Nat × Nat × Nat) : List Nat := [q.1, q.2.1, q.2.2.1, q.2.2.2]

/-- `QR_S` on an index set: what one step of `Spec.runPass` does. -/
abbrev WordMatrix.quarterRoundOn (m : WordMatrix) (q : Nat × Nat × Nat × Nat) : WordMatrix :=
  m.quarterRoundAt q.1 q.2.1 q.2.2.1 q.2.2.2

/-- Two index sets share no word. -/
abbrev Apart (p q : Nat × Nat × Nat × Nat) : Prop := ∀ i ∈ indices p, ∀ j ∈ indices q, DistinctWords i j

/-- The second finds the words it reads as they were, and neither writes what the other has written. -/
theorem WordMatrix.quarterRoundOn_comm {p q : Nat × Nat × Nat × Nat} (h : Apart p q) (m : WordMatrix) :
    (m.quarterRoundOn p).quarterRoundOn q = (m.quarterRoundOn q).quarterRoundOn p := by
  have h0 := h p.1 List.mem_cons_self
  have h1 := h p.2.1 (by simp only [List.mem_cons, true_or, or_true])
  have h2 := h p.2.2.1 (by simp only [List.mem_cons, true_or, or_true])
  have h3 := h p.2.2.2 (by simp only [List.mem_cons, true_or, or_true])
  unfold quarterRoundOn
  rw [quarterRoundAt.eq_1 m p.1, quarterRoundAt_set_of_distinct _ h3, quarterRoundAt_set_of_distinct _ h2,
    quarterRoundAt_set_of_distinct _ h1, quarterRoundAt_set_of_distinct _ h0, quarterRoundAt.eq_1 _ p.1,
    get_quarterRoundAt_of_distinct _ h0, get_quarterRoundAt_of_distinct _ h1, get_quarterRoundAt_of_distinct _ h2,
    get_quarterRoundAt_of_distinct _ h3]

/-- Index sets that share no word may be taken in any order (R83). -/
theorem runPass_eq_of_perm {ps qs : List (Nat × Nat × Nat × Nat)} (hqs : ∀ p ∈ qs, ∀ q ∈ qs, p = q ∨ Apart p q)
    (hperm : ps.Perm qs) (m : WordMatrix) : Spec.runPass ps m = Spec.runPass qs m := by
  refine hperm.foldl_eq' (fun p hp q hq m => ?_) m
  obtain rfl | hapart := hqs p (hperm.subset hp) q (hperm.subset hq)
  · rfl
  · exact m.quarterRoundOn_comm hapart

theorem columns_apart : ∀ p ∈ Spec.columns, ∀ q ∈ Spec.columns, p = q ∨ Apart p q := by decide

theorem diagonals_apart : ∀ p ∈ Spec.diagonals, ∀ q ∈ Spec.diagonals, p = q ∨ Apart p q := by decide

/-! ### Each quarter round of a pass acts on the words the pass was given -/

/-- The words of a matrix on an index set. -/
def WordMatrix.wordsAt (m : WordMatrix) (q : Nat × Nat × Nat × Nat) : Word × Word × Word × Word :=
  (m.get q.1, m.get q.2.1, m.get q.2.2.1, m.get q.2.2.2)

theorem wordsAt_columnPass (m : WordMatrix) : ∀ q ∈ Spec.columns, (columnPass m).wordsAt q =
    quarterRound (m.get q.1) (m.get q.2.1) (m.get q.2.2.1) (m.get q.2.2.2) := by
  rw [columnPass_eq_ofColumns]
  simp only [Spec.columns, List.forall_mem_cons]
  exact ⟨rfl, rfl, rfl, rfl, nofun⟩

theorem wordsAt_diagonalPass (m : WordMatrix) : ∀ q ∈ Spec.diagonals, (diagonalPass m).wordsAt q =
    quarterRound (m.get q.1) (m.get q.2.1) (m.get q.2.2.1) (m.get q.2.2.2) := by
  rw [diagonalPass_eq_columnPass, columnPass_eq_ofColumns]
  simp only [Spec.diagonals, List.forall_mem_cons]
  exact ⟨rfl, rfl, rfl, rfl, nofun⟩

/-! ### Double rounds in succession -/

theorem foldl_doubleRound (l : List Nat) (m : WordMatrix) :
    l.foldl (fun x _ => doubleRound x) m = doubleRounds l.length m := by
  induction l generalizing m with
  | nil => rfl
  | cons _ l ih => rw [List.foldl_cons, ih, List.length_cons, doubleRounds]

theorem permute_eq_foldl (m : WordMatrix) : permute m = (List.range 10).foldl (fun x _ => doubleRound x) m := by
  rw [permute, doubleRoundCount, foldl_doubleRound, List.length_range]

end Sys2Proof.Machine
end

section
/-! PROOF. The permutation and the block function (41_permutation.md R77 to R83, 42_block.md R85 to R87). -/

namespace Sys2Proof.Machine

/-- Settles O16: the formula, the movement of the bits, and the four examples by evaluation. -/
theorem rotlIsTheCircularShift : Obligations.RotlIsTheCircularShift :=
  ⟨fun x s _ hs => ⟨toNat_rotl x s, fun _ hi => getLsbD_rotl_add_mod x hs hi⟩, by decide⟩

/-- Settles O17: the four steps of a quarter round can be undone from the words it leaves; the two values by
evaluation. -/
theorem quarterRoundIsABijection : Obligations.QuarterRoundIsABijection := by
  refine ⟨fun a b c d a' b' c' d' h => ?_, fun y => ⟨_, _, _, _, quarterRound_undoQuarterRound y⟩, by decide, by decide⟩
  have hundo := congrArg undoQuarterRound h
  rw [undoQuarterRound_quarterRound, undoQuarterRound_quarterRound] at hundo
  simpa only [Prod.mk.injEq] using hundo

/-- Settles O18: the index sets of a pass share no word; the order of the passes shows in word 1 when the
matrix given is zero but for a 1 in word 0. -/
theorem orderInsideAPassDoesNotMatter : Obligations.OrderInsideAPassDoesNotMatter := by
  refine ⟨fun qs m hqs => runPass_eq_of_perm columns_apart hqs m,
    fun qs m hqs => runPass_eq_of_perm diagonals_apart hqs m,
    fun m i j k l hq => wordsAt_columnPass m (i, j, k, l) hq,
    fun m i j k l hq => wordsAt_diagonalPass m (i, j, k, l) hq,
    WordMatrix.zero.set 0 1, fun h => ?_⟩
  exact absurd (congrArg WordMatrix.w1 h) (by decide)

/-- Settles O19: the permutation is ten double rounds, and the feed-forward adds word by word. -/
theorem blockAddsTheOriginalMatrix : Obligations.BlockAddsTheOriginalMatrix := by
  intro m i _
  rw [blockFn, WordMatrix.get_add, permute_eq_foldl]

end Sys2Proof.Machine
end

section
/-! SUPPORT. The bytes of a serialized matrix (42_block.md R90), and what BLOCK and an XFORM of zero bytes leave on a
configured core (42_block.md R92, 43_transform.md R93). -/

namespace Sys2Proof.Machine

/-! ### Serialization -/

/-- Byte `j` of a word, counted from the least significant one (R39, R90). -/
theorem wordBytes_getElem? (w : Word) {j : Nat} (h : j < 4) :
    (wordBytes w)[j]? = some (BitVec.ofNat 8 (w.toNat / 2 ^ (8 * j) % 256)) := by
  have hmod : BitVec.ofNat 8 (w.toNat / 2 ^ (8 * j) % 256) = BitVec.ofNat 8 (w.toNat / 2 ^ (8 * j)) :=
    BitVec.eq_of_toNat_eq (by simp)
  rw [wordBytes_eq_map_range, List.getElem?_map, List.getElem?_range h, Option.map_some, hmod]

/-- Word 0 first, four bytes a word: byte `k` is byte `k mod 4` of word `k div 4`. -/
theorem flatMap_wordBytes_getElem? (ws : List Word) (k : Nat) :
    (ws.flatMap wordBytes)[k]? = ws[k / 4]?.bind fun w => (wordBytes w)[k % 4]? := by
  induction ws generalizing k with
  | nil => rfl
  | cons w ws ih =>
    rw [List.flatMap_cons, List.getElem?_append, wordBytes_length]
    split
    case isTrue hfirst => rw [Nat.div_eq_of_lt hfirst, Nat.mod_eq_of_lt hfirst]; rfl
    case isFalse hlater =>
      have hdiv : k / 4 = (k - 4) / 4 + 1 := by omega
      have hmod : (k - 4) % 4 = k % 4 := by omega
      rw [ih, hdiv, hmod, List.getElem?_cons_succ]

theorem serialize_getElem? (m : WordMatrix) {k : Nat} (h : k < 64) :
    (serialize m)[k]? = some (BitVec.ofNat 8 ((m.get (k / 4)).toNat / 2 ^ (8 * (k % 4)) % 256)) := by
  rw [serialize, flatMap_wordBytes_getElem?, m.toList_getElem? (by omega), Option.bind_some,
    wordBytes_getElem? _ (by omega)]

/-! ### A message of zero bytes gives back its keystream (R93, R97) -/

theorem xorBytes_replicate_zero (m : Nat) (ks : List Byte) : xorBytes (List.replicate m 0) ks = ks.take m := by
  induction m generalizing ks with
  | zero => rfl
  | succ m ih =>
    cases ks with
    | nil => rfl
    | cons b ks =>
      have hhead : (0 : Byte) ^^^ b = b := BitVec.zero_xor
      have htail : List.zipWith (· ^^^ ·) (List.replicate m 0) ks = ks.take m := ih ks
      rw [xorBytes, List.replicate_succ, List.zipWith_cons_cons, hhead, htail, List.take_succ_cons]

theorem transformFrom_replicate_zero (e : Engine) (k : Key) (nonce : Nonce) (c : Word) (m : Nat) :
    transformFrom e k nonce c 0 (List.replicate m 0) = (keystreamScalar k nonce c (ceilDiv m 64)).take m := by
  have hctr : c + BitVec.ofNat 32 (0 / 64) = c := BitVec.add_zero c
  rw [transformFrom, xorBytes_replicate_zero, keystreamRun_eq_keystreamScalar, hctr, Nat.zero_mod, List.drop_zero,
    Nat.zero_add, List.length_replicate]

/-- 64 zero bytes give back one whole block. -/
theorem transformFrom_block_of_zeros (e : Engine) (k : Key) (nonce : Nonce) (c : Word) :
    transformFrom e k nonce c 0 (List.replicate 64 0) = keystreamBytes k c nonce := by
  have hone : keystreamScalar k nonce c (ceilDiv 64 64) = keystreamBytes k c nonce := List.append_nil _
  rw [transformFrom_replicate_zero, hone, List.take_of_length_le (Nat.le_of_eq (keystreamBytes_length ..))]

/-! ### The two commands on a configured core -/

/-- Everything a command that returns keystream does, but for the working registers and the free-value index (I14). -/
theorem State.emitKeystream_eq_of_configured {s : State} (h : s.conf = true) (bs : List Byte) (n : Word) :
    s.emitKeystream bs n = { s with
      dout := s.dout ++ bs
      ctr := s.ctr + n, matS := initState s.key (s.ctr + n) s.nonce
      rsp := s.rsp ++ [Spec.status 0 true s.engine]
      matX := (s.emitKeystream bs n).matX, matKS := (s.emitKeystream bs n).matKS
      datapath := (s.emitKeystream bs n).datapath, freeIx := (s.emitKeystream bs n).freeIx } := by
  have hstatus : statusWord .ok ((s.doutWrite bs).forgetWork.advance n).conf
      ((s.doutWrite bs).forgetWork.advance n).engine = Spec.status 0 true s.engine := by
    rw [statusWord_eq_status]
    simp [h, ErrCode.code]
  rw [emitKeystream_of_configured h, State.finish, hstatus]
  rfl

/-- An XFORM whose message is there, on a configured core. -/
theorem State.xformFrom_of_configured {s : State} {len : Word} (hc : s.conf = true)
    (hlen : len.toNat ≤ s.din.length) :
    s.xformFrom len 0 =
      ((((s.dinConsumed len.toNat).doutWrite
        (transformFrom s.engine s.key s.nonce s.ctr 0 (s.din.take len.toNat))).messageArrived.forgetWorkAfter
          (chunkCount len)).advance (BitVec.ofNat 32 (chunkCount len))).finish := by
  have henough : len.toNat ≤ 0 + s.din.length := by omega
  rw [xformFrom_of_enough henough, Nat.sub_zero, completeXform_of_configured (by simpa using hc),
    transferBytes_of_configured hc]

/-- An XFORM of 64 zero bytes is one chunk, and the block for the current counter goes to DOUT as BLOCK writes it. -/
theorem State.xformFrom_block_of_zeros {s : State} {rest : List Byte} (hc : s.conf = true)
    (hdin : s.din = List.replicate 64 0 ++ rest) :
    s.xformFrom 64 0 =
      (((s.dinConsumed 64).doutWrite (keystreamBytes s.key s.ctr s.nonce)).messageArrived.forgetWork.advance
        1).finish := by
  have hlen : (64 : Word).toNat = 64 := rfl
  have hchunks : chunkCount 64 = 1 := by decide
  have henough : (64 : Word).toNat ≤ s.din.length := by simp [hdin]
  have hzeros : s.din.take 64 = List.replicate 64 0 := by rw [hdin, List.take_left' List.length_replicate]
  rw [xformFrom_of_configured hc henough, hlen, hchunks, hzeros, transformFrom_block_of_zeros]
  rfl

end Sys2Proof.Machine
end

section
/-! PROOF. The serialization and BLOCK (42_block.md R89 to R92). -/

namespace Sys2Proof.Machine

/-- Settles O20: the length, and byte `k` from word `k div 4`. -/
theorem serializationIsLittleEndian : Obligations.SerializationIsLittleEndian := by
  refine fun m => ⟨serialize_length m, fun k hk => ?_⟩
  rw [List.getD_eq_getElem?_getD, serialize_getElem? m hk, Option.getD_some]

/-- Settles O22: BLOCK emits its block as `State.emitKeystream` says. -/
theorem blockEmitsTheCurrentBlock : Obligations.BlockEmitsTheCurrentBlock := fun _ hc =>
  ⟨_, rfl, State.emitKeystream_eq_of_configured hc _ _, State.emitKeystream_engine ..⟩

/-- Settles O25: both commands emit the block for the current counter and advance by one, and XFORM has read just
the zeros. -/
theorem blockEqualsXformOf64Zeros : Obligations.BlockEqualsXformOf64Zeros := by
  intro s hc
  refine ⟨_, _, rfl, rfl, ?_⟩
  rw [State.emitKeystream_of_configured hc,
    State.xformFrom_block_of_zeros (s := { s with din := List.replicate 64 0 ++ s.din }) hc rfl]
  simp

end Sys2Proof.Machine
end

section
/-! SUPPORT. The states an XFORM that goes on can come to, each written out as a record (43_transform.md R93, R95,
60_exceptions.md R122, 70_reset_and_hazards.md R139), and what follows for its output bytes (R98 to R100). -/

namespace Sys2Proof.Machine

/-! ### The three outcomes -/

theorem chunkCount_eq_blocksFor (len : Word) : chunkCount len = Spec.blocksFor len.toNat := rfl

theorem State.xformFrom_eq_of_short {s : State} {len : Word} {done : Nat} (h : done + s.din.length < len.toNat) :
    s.xformFrom len done = { s with
      din := [], dout := s.dout ++ s.portionOutput done s.din.length
      pendingXform := some ⟨len, done + s.din.length⟩ } := by
  rw [xformFrom_of_short h, transferBytes_eq_portionOutput, State.dinConsumed, List.drop_length]
  rfl

section
variable {s : State} {len : Word} {done : Nat}

theorem State.xformFrom_eq_of_unconfigured (hc : s.conf = false) (henough : len.toNat ≤ done + s.din.length) :
    s.xformFrom len done = { s with
      din := s.din.drop (len.toNat - done)
      rsp := s.rsp ++ [Spec.status 3 false s.engine], pendingXform := none } := by
  have hstatus : Spec.status 3 false s.engine = Spec.status 3 s.conf s.engine := by rw [hc]
  rw [xformFrom_of_enough henough, transferBytes_of_unconfigured hc,
    completeXform_of_unconfigured (s := s.dinConsumed _) hc, raiseError_eq_status, hstatus]
  rfl

/-- Everything the end of an XFORM does, but for the working registers and the free-value index (I14). -/
theorem State.completeXform_eq_of_configured (hc : s.conf = true) :
    s.completeXform len = { s with
      ctr := s.ctr + BitVec.ofNat 32 (Spec.blocksFor len.toNat)
      matS := initState s.key (s.ctr + BitVec.ofNat 32 (Spec.blocksFor len.toNat)) s.nonce
      rsp := s.rsp ++ [Spec.status 0 true s.engine], pendingXform := none
      matX := (s.completeXform len).matX, matKS := (s.completeXform len).matKS
      datapath := (s.completeXform len).datapath, freeIx := (s.completeXform len).freeIx } := by
  have hrsp : (s.completeXform len).rsp = s.rsp ++ [Spec.status 0 true s.engine] := by
    simp [completeXform_rsp, hc]
  rw [← hrsp, completeXform_of_configured hc, chunkCount_eq_blocksFor]
  cases Spec.blocksFor len.toNat <;> rfl

theorem State.xformFrom_eq_of_configured (hc : s.conf = true) (henough : len.toNat ≤ done + s.din.length) :
    s.xformFrom len done = { s with
      din := s.din.drop (len.toNat - done), dout := s.dout ++ s.portionOutput done (len.toNat - done)
      ctr := s.ctr + BitVec.ofNat 32 (Spec.blocksFor len.toNat)
      matS := initState s.key (s.ctr + BitVec.ofNat 32 (Spec.blocksFor len.toNat)) s.nonce
      rsp := s.rsp ++ [Spec.status 0 true s.engine], pendingXform := none
      matX := (s.xformFrom len done).matX, matKS := (s.xformFrom len done).matKS
      datapath := (s.xformFrom len done).datapath, freeIx := (s.xformFrom len done).freeIx } := by
  rw [xformFrom_of_enough henough, transferBytes_eq_portionOutput]
  exact completeXform_eq_of_configured (s := (s.dinConsumed _).doutWrite _) hc

theorem State.xformFrom_ctr_of_configured (hc : s.conf = true) (henough : len.toNat ≤ done + s.din.length) :
    (s.xformFrom len done).ctr = s.ctr + BitVec.ofNat 32 (Spec.blocksFor len.toNat) :=
  congrArg State.ctr (xformFrom_eq_of_configured hc henough)

theorem State.xformFrom_matS_of_configured (hc : s.conf = true) (henough : len.toNat ≤ done + s.din.length) :
    (s.xformFrom len done).matS =
      initState s.key (s.ctr + BitVec.ofNat 32 (Spec.blocksFor len.toNat)) s.nonce :=
  congrArg State.matS (xformFrom_eq_of_configured hc henough)

theorem State.xformFrom_rsp_of_configured (hc : s.conf = true) (henough : len.toNat ≤ done + s.din.length) :
    (s.xformFrom len done).rsp = s.rsp ++ [Spec.status 0 true s.engine] :=
  congrArg State.rsp (xformFrom_eq_of_configured hc henough)

end

/-- The portion that begins the message, when it is there. -/
theorem State.portionOutput_zero {s : State} (hc : s.conf = true) {m : Nat} (hm : m ≤ s.din.length) :
    (s.portionOutput 0 m).length = m ∧ ∀ j, j < m →
      (s.portionOutput 0 m).getD j 0 = s.din.getD j 0 ^^^ Spec.keystreamByte s.key s.ctr s.nonce j := by
  have hlength : (s.portionOutput 0 m).length = m := by rw [portionOutput_length hc, Nat.min_eq_left hm]
  refine ⟨hlength, fun j hj => ?_⟩
  rw [portionOutput_getD hc 0 m (hlength.symm ▸ hj), Nat.zero_add]

theorem State.xformFrom_dout_of_message {s : State} {len : Word} {msg rest : List Byte} (hc : s.conf = true)
    (hdin : s.din = msg ++ rest) (hmsg : msg.length = len.toNat) :
    (s.xformFrom len 0).dout = s.dout ++ transformFrom s.engine s.key s.nonce s.ctr 0 msg := by
  rw [xformFrom_dout, portionOutput_of_configured hc, hdin, Nat.sub_zero, List.take_left' hmsg]

/-! ### Algebra of the output bytes -/

/-- The same keystream twice is no keystream, whichever engines generate it (R98, R101). -/
theorem transformFrom_transformFrom (e e' : Engine) (k : Key) (nonce : Nonce) (c : Word) (done : Nat)
    (msg : List Byte) :
    transformFrom e' k nonce c done (transformFrom e k nonce c done msg) = msg := by
  have hxor (j : Nat) (b : Byte) :
      b ^^^ Spec.keystreamByte k c nonce (done + j) ^^^ Spec.keystreamByte k c nonce (done + j) = b := by
    rw [BitVec.xor_assoc, BitVec.xor_self, BitVec.xor_zero]
  apply List.ext_getElem (by simp)
  intro j _ _
  simp [transformFrom_eq_mapIdx, hxor]

/-- After `q` whole blocks, an XFORM that begins with the counter advanced by `q` has the bytes of one that goes on. -/
theorem transformFrom_add_blocks (e : Engine) (k : Key) (nonce : Nonce) (c : Word) (q : Nat) (msg : List Byte) :
    transformFrom e k nonce (c + BitVec.ofNat 32 q) 0 msg = transformFrom e k nonce c (64 * q) msg := by
  simp only [transformFrom_eq_mapIdx, keystreamByte_add_blocks, Nat.zero_add]

theorem keystreamScalar_eq_keystream (k : Key) (nonce : Nonce) (c : Word) (q : Nat) :
    keystreamScalar k nonce c q = Spec.keystream k c nonce q := by
  induction q generalizing c with
  | zero => rfl
  | succ q ih => rw [keystreamScalar, keystream_succ, ih]

/-! ### A message in two XFORMs, split at a block boundary (R99) -/

theorem blocksFor_add {m : Nat} (h : m % 64 = 0) (n : Nat) :
    Spec.blocksFor (m + n) = Spec.blocksFor m + Spec.blocksFor n := by
  unfold Spec.blocksFor
  omega

/-- After an XFORM of whole blocks, the next one writes what one XFORM of both messages would still write. -/
theorem State.portionOutput_xformFrom {s : State} {len : Word} (hc : s.conf = true) (hlen : len.toNat ≤ s.din.length)
    (hsplit : len.toNat % 64 = 0) (n : Nat) :
    (s.xformFrom len 0).portionOutput 0 n =
      transformFrom s.engine s.key s.nonce s.ctr len.toNat ((s.din.drop len.toNat).take n) := by
  have hblocks : 64 * Spec.blocksFor len.toNat = len.toNat := by unfold Spec.blocksFor; omega
  have hconf : (s.xformFrom len 0).conf = true := by simpa using hc
  rw [portionOutput_of_configured hconf, xformFrom_ctr_of_configured hc (by omega), transformFrom_add_blocks, hblocks]
  simp

theorem State.portionOutput_add {s : State} (hc : s.conf = true) {m : Nat} (hm : m ≤ s.din.length) (n : Nat) :
    s.portionOutput 0 (m + n) =
      s.portionOutput 0 m ++ transformFrom s.engine s.key s.nonce s.ctr m ((s.din.drop m).take n) := by
  rw [portionOutput_of_configured hc, portionOutput_of_configured hc, List.take_add, transformFrom_append,
    List.length_take_of_le hm, Nat.zero_add]

end Sys2Proof.Machine
end

section
/-! PROOF. XFORM (43_transform.md R93 to R100, 60_exceptions.md R122, 70_reset_and_hazards.md R139). -/

namespace Sys2Proof.Machine

/-- Settles O27: an XFORM begins as one that goes on after no byte. -/
theorem xformTransformsTheMessage : Obligations.XformTransformsTheMessage := by
  intro s len hlen
  have henough : len.toNat ≤ 0 + s.din.length := by omega
  constructor
  · intro hc
    obtain ⟨hlength, hbytes⟩ := State.portionOutput_zero hc hlen
    exact ⟨s.xformFrom len 0, s.portionOutput 0 len.toNat, rfl, hlength, hbytes,
      State.xformFrom_eq_of_configured hc henough, State.xformFrom_engine ..⟩
  · exact fun hc => congrArg Host.Outcome.next (State.xformFrom_eq_of_unconfigured hc henough)

/-- Settles O28: DOUT grows by the output of the whole message, and no byte takes no block. -/
theorem xformPreservesLength : Obligations.XformPreservesLength := by
  intro s len hc hlen
  have henough : len.toNat ≤ 0 + s.din.length := by omega
  obtain ⟨hlength, -⟩ := State.portionOutput_zero hc hlen
  refine ⟨s.xformFrom len 0, rfl, ?_, ?_⟩
  · rw [State.xformFrom_dout, List.length_append, Nat.sub_zero, hlength]
  · rintro rfl
    have hnone : s.portionOutput 0 0 = [] := List.length_eq_zero_iff.mp (by simp [State.portionOutput_length hc])
    have hctr : s.ctr + BitVec.ofNat 32 (Spec.blocksFor 0) = s.ctr := BitVec.add_zero s.ctr
    exact ⟨State.xformFrom_din .., by simp [hnone], (State.xformFrom_ctr_of_configured hc henough).trans hctr,
      State.xformFrom_rsp_of_configured hc henough⟩

/-- Settles O29: the second core's output is the first one's, transformed with the same keystream. -/
theorem xformUndoesItself : Obligations.XformUndoesItself := by
  intro s₁ s₂ len m r₁ r₂ hc₁ hc₂ hkey hnonce hctr hm
  have hx : (transformFrom s₁.engine s₁.key s₁.nonce s₁.ctr 0 m).length = len.toNat := by
    rw [transformFrom_length, hm]
  have hback : transformFrom s₂.engine s₂.key s₂.nonce s₂.ctr 0 (transformFrom s₁.engine s₁.key s₁.nonce s₁.ctr 0 m) =
      m := by
    rw [hkey, hnonce, hctr, transformFrom_transformFrom]
  have hdout := State.xformFrom_dout_of_message (s := { s₂ with din := _ ++ r₂ }) hc₂ rfl hx
  exact ⟨_, _, _, rfl, State.xformFrom_dout_of_message (s := { s₁ with din := m ++ r₁ }) hc₁ rfl hm,
    transformFrom_length .., rfl, hdout.trans (congrArg (s₂.dout ++ ·) hback)⟩

/-- Settles O30: the second XFORM starts at the block where the one XFORM would be. -/
theorem xformSplitsAtBlockBoundaries : Obligations.XformSplitsAtBlockBoundaries := by
  intro s len₁ len₂ hc hsplit hsum hlen
  have hadd : (len₁ + len₂).toNat = len₁.toNat + len₂.toNat := BitVec.toNat_add_of_lt hsum
  have hfirst : len₁.toNat ≤ 0 + s.din.length := by omega
  have hwhole : (len₁ + len₂).toNat ≤ 0 + s.din.length := by omega
  have hconf : (s.xformFrom len₁ 0).conf = true := by simpa using hc
  have hsecond : len₂.toNat ≤ 0 + (s.xformFrom len₁ 0).din.length := by
    rw [State.xformFrom_din, List.length_drop]
    omega
  have hctr : s.ctr + BitVec.ofNat 32 (Spec.blocksFor len₁.toNat) + BitVec.ofNat 32 (Spec.blocksFor len₂.toNat) =
      s.ctr + BitVec.ofNat 32 (Spec.blocksFor (len₁ + len₂).toNat) := by
    rw [hadd, blocksFor_add hsplit, BitVec.ofNat_add, BitVec.add_assoc]
  refine ⟨_, _, _, rfl, rfl, rfl, ?_, ?_, ?_, ?_⟩
  · simp only [State.xformFrom_dout, Nat.sub_zero]
    rw [State.portionOutput_xformFrom hc (by omega) hsplit, hadd, State.portionOutput_add hc (by omega),
      List.append_assoc]
  · simp [hadd]
  · rw [State.xformFrom_ctr_of_configured hconf hsecond, State.xformFrom_ctr_of_configured hc hfirst,
      State.xformFrom_ctr_of_configured hc hwhole, hctr]
  · rw [State.xformFrom_matS_of_configured hconf hsecond, State.xformFrom_ctr_of_configured hc hfirst,
      State.xformFrom_matS_of_configured hc hwhole, hctr, State.xformFrom_key, State.xformFrom_nonce]

/-- Settles O31: KEYSTREAM is an XFORM of zero bytes, which give back the keystream they meet. -/
theorem keystreamPseudoCommandReturnsKeystream : Obligations.KeystreamPseudoCommandReturnsKeystream := by
  intro s len ws bs hc hp hcmd hdin
  have hfetch : s.fetch = .command (.xform len) ws := by rw [State.fetch, hcmd]; rfl
  have hzeros : s.din = List.replicate len.toNat 0 ++ bs := by
    rw [hdin, PseudoLine.expand, AsmLine.dinBytes, List.take_replicate, Nat.min_self]
  have henough : len.toNat ≤ 0 + (s.cmdConsumed ws).din.length := by simp [hzeros]
  have hout := State.xformFrom_dout_of_message (s := s.cmdConsumed ws) hc hzeros List.length_replicate
  rw [transformFrom_replicate_zero, keystreamScalar_eq_keystream] at hout
  refine ⟨_, step_of_command hp hfetch, hout, State.xformFrom_cmd .., ?_,
    State.xformFrom_ctr_of_configured (s := s.cmdConsumed ws) hc henough⟩
  rw [State.xformFrom_din, State.cmdConsumed_din, hzeros, Nat.sub_zero, List.drop_left' List.length_replicate]

/-- Settles O32: the short outcome, from no byte read. -/
theorem xformWaitsForItsMessage : Obligations.XformWaitsForItsMessage := by
  intro s len hshort
  have hstuck : s.xformFrom len 0 = { s with
      din := [], dout := s.dout ++ s.portionOutput 0 s.din.length, pendingXform := some ⟨len, s.din.length⟩ } := by
    rw [State.xformFrom_eq_of_short (by omega), Nat.zero_add]
  exact ⟨_, congrArg Host.Outcome.next hstuck, fun hc => State.portionOutput_of_unconfigured hc _ _,
    fun hc => State.portionOutput_zero hc (Nat.le_refl _)⟩

/-- Settles O52: the two outcomes of an XFORM whose message is there, from the byte where it is stuck. -/
theorem waitingXformCompletes : Obligations.WaitingXformCompletes := by
  intro s p hp henough
  rw [step_of_pending hp]
  constructor
  · intro hc
    have hlength : (s.portionOutput p.done (p.len.toNat - p.done)).length = p.len.toNat - p.done := by
      rw [State.portionOutput_length hc]
      omega
    exact ⟨s.xformFrom p.len p.done, _, rfl, hlength, fun _ hj => State.portionOutput_getD hc _ _ hj,
      State.xformFrom_eq_of_configured hc henough, State.xformFrom_engine ..⟩
  · exact fun hc => congrArg Host.Outcome.next (State.xformFrom_eq_of_unconfigured hc henough)

end Sys2Proof.Machine
end

section
/-! SUPPORT. The registers that a keystream command on a configured core writes, and BLOCK2 on either engine
(44_dual_lane.md R105, R113). -/

namespace Sys2Proof.Machine

theorem State.emitKeystream_dout_of_configured {s : State} (h : s.conf = true) (bs : List Byte) (n : Word) :
    (s.emitKeystream bs n).dout = s.dout ++ bs := by
  rw [emitKeystream_eq_of_configured h]

theorem State.emitKeystream_ctr_of_configured {s : State} (h : s.conf = true) (bs : List Byte) (n : Word) :
    (s.emitKeystream bs n).ctr = s.ctr + n := by
  rw [emitKeystream_eq_of_configured h]

/-- `S` follows the counter (R25). -/
theorem State.emitKeystream_matS_of_configured {s : State} (h : s.conf = true) (bs : List Byte) (n : Word) :
    (s.emitKeystream bs n).matS = initState s.key (s.ctr + n) s.nonce := by
  rw [emitKeystream_eq_of_configured h]

/-- Whichever way an engine computes them, BLOCK2 emits the two scalar blocks (R104, R113). -/
theorem exec_block2 (s : State) :
    exec .block2 s =
      .next (s.emitKeystream (keystreamBytes s.key s.ctr s.nonce ++ keystreamBytes s.key (s.ctr + 1) s.nonce) 2) := by
  rw [exec, execBlock2, pairBytes_eq_keystreamBytes]

end Sys2Proof.Machine
end

section
/-! PROOF. The dual-lane datapath and BLOCK2 (44_dual_lane.md R104, R105, R113). -/

namespace Sys2Proof.Machine

/-- Settles O21: the lanes hold the two matrices side by side through every vector operation. -/
theorem dualPassIsTwoScalarBlocks : Obligations.DualPassIsTwoScalarBlocks := dualBlocks_eq_keystreamBlocks

/-- Settles O23: BLOCK2 emits its two blocks as `State.emitKeystream` says. -/
theorem block2EmitsTheNextTwoBlocks : Obligations.Block2EmitsTheNextTwoBlocks := by
  intro s hc
  refine ⟨_, exec_block2 s, ?_, State.emitKeystream_engine ..⟩
  rw [List.append_assoc]
  exact State.emitKeystream_eq_of_configured hc _ _

/-- Settles O24: the second BLOCK finds the key and nonce of the first, and the counter one further. -/
theorem block2EqualsTwoBlocks : Obligations.Block2EqualsTwoBlocks := by
  intro s hc
  have hconf : (s.emitKeystream (keystreamBytes s.key s.ctr s.nonce) 1).conf = true := by simpa using hc
  have htwo : s.ctr + 1 + 1 = s.ctr + 2 := add_one_add_ofNat s.ctr 1
  refine ⟨_, _, _, rfl, rfl, exec_block2 s, ?_, ?_, ?_⟩
  · rw [State.emitKeystream_dout_of_configured hc, State.emitKeystream_dout_of_configured hconf,
      State.emitKeystream_dout_of_configured hc, State.emitKeystream_ctr_of_configured hc, State.emitKeystream_key,
      State.emitKeystream_nonce, List.append_assoc]
  · rw [State.emitKeystream_ctr_of_configured hc, State.emitKeystream_ctr_of_configured hconf,
      State.emitKeystream_ctr_of_configured hc, htwo]
  · rw [State.emitKeystream_matS_of_configured hc, State.emitKeystream_matS_of_configured hconf,
      State.emitKeystream_ctr_of_configured hc, State.emitKeystream_key, State.emitKeystream_nonce, htwo]

end Sys2Proof.Machine
end

section
/-! PROOF. Secrets reach the host only as keystream bytes: each update takes states that agree but for the secrets to such
states, and an unconfigured core writes no DOUT byte at all (R118, R122). -/

namespace Sys2Proof.Machine

section
variable {s t : State}

/-! ### Each update, on two states that agree but for the secrets -/

theorem SameButSecrets.cmdConsumed (h : SameButSecrets s t) (rest : List Word) :
    SameButSecrets (s.cmdConsumed rest) (t.cmdConsumed rest) := { h with cmd := rfl }

theorem SameButSecrets.dinConsumed (h : SameButSecrets s t) (n : Nat) :
    SameButSecrets (s.dinConsumed n) (t.dinConsumed n) := { h with din := congrArg (List.drop n) h.din }

/-- The bytes written may depend on the secrets, their number may not. -/
theorem SameButSecrets.doutWrite (h : SameButSecrets s t) {bs cs : List Byte} (hlen : bs.length = cs.length) :
    SameButSecrets (s.doutWrite bs) (t.doutWrite cs) := { h with doutLength := by simp [h.doutLength, hlen] }

theorem SameButSecrets.rspWrite (h : SameButSecrets s t) (w : Word) :
    SameButSecrets (s.rspWrite w) (t.rspWrite w) := { h with rsp := congrArg (· ++ [w]) h.rsp }

/-- A status word shows `CONF` and `ENGINE`, which are no secrets. -/
theorem SameButSecrets.raiseError (h : SameButSecrets s t) (err : ErrCode) :
    SameButSecrets (s.raiseError err) (t.raiseError err) := by
  rw [State.raiseError, State.raiseError, h.conf, h.engine]
  exact h.rspWrite _

theorem SameButSecrets.finish (h : SameButSecrets s t) : SameButSecrets s.finish t.finish := h.raiseError .ok

theorem SameButSecrets.awaitMessage (h : SameButSecrets s t) (len : Word) (done : Nat) :
    SameButSecrets (s.awaitMessage len done) (t.awaitMessage len done) := { h with pendingXform := rfl }

theorem SameButSecrets.messageArrived (h : SameButSecrets s t) : SameButSecrets s.messageArrived t.messageArrived :=
  { h with pendingXform := rfl }

theorem SameButSecrets.loadEngine (h : SameButSecrets s t) (k : Key) (c : Word) (n : Nonce) :
    SameButSecrets (s.loadEngine k c n) (t.loadEngine k c n) := { h with ctr := rfl, conf := rfl }

theorem SameButSecrets.advance (h : SameButSecrets s t) (n : Word) : SameButSecrets (s.advance n) (t.advance n) :=
  { h with ctr := congrArg (· + n) h.ctr }

theorem SameButSecrets.wipeRegisters (h : SameButSecrets s t) : SameButSecrets s.wipeRegisters t.wipeRegisters :=
  { h with ctr := rfl, conf := rfl, engine := by simp [h.engine] }

theorem SameButSecrets.forgetWork (h : SameButSecrets s t) : SameButSecrets s.forgetWork t.forgetWork :=
  { h with engine := by simp [h.engine] }

theorem SameButSecrets.forgetWorkAfter (h : SameButSecrets s t) (n : Nat) :
    SameButSecrets (s.forgetWorkAfter n) (t.forgetWorkAfter n) := by
  cases n with
  | zero => exact h
  | succ n => exact h.forgetWork

/-! ### The commands -/

theorem SameButSecrets.emitKeystream (h : SameButSecrets s t) {bs cs : List Byte} (hlen : bs.length = cs.length)
    (n : Word) : SameButSecrets (s.emitKeystream bs n) (t.emitKeystream cs n) := by
  unfold State.emitKeystream
  rw [← h.conf]
  split
  · exact ((h.doutWrite hlen).forgetWork.advance n).finish
  · exact h.raiseError _

/-- The number of output bytes follows from `CONF` and the message alone. -/
theorem SameButSecrets.portionOutput_length (h : SameButSecrets s t) (done m : Nat) :
    (s.portionOutput done m).length = (t.portionOutput done m).length := by
  cases hc : s.conf
  case false =>
    rw [State.portionOutput_of_unconfigured hc, State.portionOutput_of_unconfigured (h.conf.symm.trans hc)]
  case true =>
    rw [State.portionOutput_length hc, State.portionOutput_length (h.conf.symm.trans hc), h.din]

theorem SameButSecrets.transferBytes (h : SameButSecrets s t) (done m : Nat) :
    SameButSecrets (s.transferBytes done m) (t.transferBytes done m) := by
  rw [State.transferBytes_eq_portionOutput, State.transferBytes_eq_portionOutput]
  exact (h.dinConsumed m).doutWrite (h.portionOutput_length done m)

theorem SameButSecrets.completeXform (h : SameButSecrets s t) (len : Word) :
    SameButSecrets (s.completeXform len) (t.completeXform len) := by
  unfold State.completeXform
  rw [← h.conf]
  split
  · exact ((h.messageArrived.forgetWorkAfter _).advance _).finish
  · exact h.messageArrived.raiseError _

theorem SameButSecrets.xformFrom (h : SameButSecrets s t) (len : Word) (done : Nat) :
    SameButSecrets (s.xformFrom len done) (t.xformFrom len done) := by
  have hready : t.dinReady (len.toNat - done) = s.dinReady (len.toNat - done) := by
    rw [State.dinReady, State.dinReady, h.din]
  unfold State.xformFrom
  rw [hready]
  split
  · exact (h.transferBytes _ _).awaitMessage _ _
  · exact (h.transferBytes _ _).completeXform _

theorem SameButSecrets.execInit (h : SameButSecrets s t) (key : List Word) (c : Word) (nonce : List Word) :
    ∃ s' t', execInit key c nonce s = .next s' ∧ execInit key c nonce t = .next t' ∧ SameButSecrets s' t' := by
  unfold Machine.execInit
  split
  case h_1 k n _ _ => exact ⟨_, _, rfl, rfl, (h.loadEngine k c n).finish⟩
  case h_2 => exact ⟨_, _, rfl, rfl, h.raiseError _⟩
  case h_3 => exact ⟨_, _, rfl, rfl, h.raiseError _⟩

/-- RDCTR writes the counter, which is no secret. -/
theorem SameButSecrets.execRdctr (h : SameButSecrets s t) :
    SameButSecrets (s.finish.rspWrite s.ctr) (t.finish.rspWrite t.ctr) := by
  rw [← h.ctr]
  exact h.finish.rspWrite _

theorem SameButSecrets.exec (h : SameButSecrets s t) (i : Instr) :
    ∃ s' t', exec i s = .next s' ∧ exec i t = .next t' ∧ SameButSecrets s' t' := by
  cases i with
  | init key c nonce => exact h.execInit key c nonce
  | xform len => exact ⟨_, _, rfl, rfl, h.xformFrom len 0⟩
  | block => exact ⟨_, _, rfl, rfl, h.emitKeystream (by simp) 1⟩
  | block2 => exact ⟨_, _, exec_block2 s, exec_block2 t, h.emitKeystream (by simp) 2⟩
  | rdctr => exact ⟨_, _, rfl, rfl, h.execRdctr⟩
  | wipe => exact ⟨_, _, rfl, rfl, h.wipeRegisters.finish⟩

/-- The command stream and the waiting XFORM are no secrets, so the two states take the same kind of step. -/
theorem SameButSecrets.step (h : SameButSecrets s t) :
    ∃ s' t', step s = .next s' ∧ step t = .next t' ∧ SameButSecrets s' t' := by
  have hfetch : t.fetch = s.fetch := congrArg decode h.cmd.symm
  cases hp : s.pendingXform with
  | some p =>
    exact ⟨_, _, step_of_pending hp, step_of_pending (h.pendingXform.symm.trans hp), h.xformFrom p.len p.done⟩
  | none =>
    have hp' : t.pendingXform = none := h.pendingXform.symm.trans hp
    cases hf : s.fetch with
    | incomplete => exact ⟨s, t, step_of_incomplete hp hf, step_of_incomplete hp' (hfetch.trans hf), h⟩
    | illegal why rest =>
      exact ⟨_, _, step_of_illegal hp hf, step_of_illegal hp' (hfetch.trans hf), (h.cmdConsumed rest).raiseError _⟩
    | command i rest =>
      rw [step_of_command hp hf, step_of_command hp' (hfetch.trans hf)]
      exact (h.cmdConsumed rest).exec i

/-! ### While `CONF = 0` nothing is written to DOUT -/

theorem xformFrom_dout_of_unconfigured (hc : s.conf = false) (len : Word) (done : Nat) :
    (s.xformFrom len done).dout = s.dout := by
  rw [State.xformFrom_dout, State.portionOutput_of_unconfigured hc, List.append_nil]

theorem exec_dout_of_unconfigured {i : Instr} (hc : s.conf = false) (ht : exec i s = .next t) : t.dout = s.dout := by
  cases i with
  | init key c nonce =>
    obtain ⟨k, n, -, -, hexec⟩ | ⟨-, hexec⟩ := execInit_cases key c nonce s
    · cases hexec.symm.trans ht; rfl
    · cases hexec.symm.trans ht; rfl
  | xform len => cases ht; exact xformFrom_dout_of_unconfigured hc len 0
  | block => cases ht; rw [State.emitKeystream_of_unconfigured hc]; rfl
  | block2 => cases ht; rw [State.emitKeystream_of_unconfigured hc]; rfl
  | rdctr => cases ht; rfl
  | wipe => cases ht; rfl

theorem step_dout_of_unconfigured (hc : s.conf = false) (ht : step s = .next t) : t.dout = s.dout := by
  cases hp : s.pendingXform with
  | some p => cases (step_of_pending hp).symm.trans ht; exact xformFrom_dout_of_unconfigured hc p.len p.done
  | none =>
    cases hf : s.fetch with
    | incomplete => cases (step_of_incomplete hp hf).symm.trans ht; rfl
    | illegal why rest => cases (step_of_illegal hp hf).symm.trans ht; rfl
    | command i rest =>
      exact exec_dout_of_unconfigured (s := s.cmdConsumed rest) hc ((step_of_command hp hf).symm.trans ht)

end

/-- Settles O48: the two steps keep the relation, and on an unconfigured core neither of them writes to DOUT. -/
theorem secretsReachOnlyKeystreamBytes : Obligations.SecretsReachOnlyKeystreamBytes := by
  intro s₁ s₂ t₁ h hstep
  obtain ⟨s', t₂, hs', hstep₂, hsame⟩ := h.step
  cases hs'.symm.trans hstep
  refine ⟨t₂, hstep₂, hsame, fun hc hdout => ?_⟩
  rw [step_dout_of_unconfigured hc hstep, step_dout_of_unconfigured (h.conf.symm.trans hc) hstep₂, hdout]

end Sys2Proof.Machine
end

section
/-! PROOF. RDCTR and WIPE (45_status_wipe.md R115, R116). -/

namespace Sys2Proof.Machine

/-- Settles O35: the counter comes behind the status word. -/
theorem rdctrReturnsTheCounter : Obligations.RdctrReturnsTheCounter := by
  intro s
  rw [exec, execRdctr, State.finish_eq_status, State.rspWrite, List.append_assoc]
  rfl

theorem Datapath.zeroOf_eq_ite (e : Engine) :
    Datapath.zeroOf e = if e = .dual then .dual .zero else .scalar := by
  cases e <;> rfl

/-- Settles O36: the status word shows the engine, which WIPE leaves as it was. -/
theorem wipeZeroesEveryRegister : Obligations.WipeZeroesEveryRegister := by
  intro s
  rw [exec, execWipe, State.finish_eq_status, State.wipeRegisters_engine, State.wipeRegisters, Datapath.zeroOf_eq_ite]
  rfl

end Sys2Proof.Machine
end

section
/-! PROOF. Missing words and the two errors after decode, INVALID_LENGTH and NOT_CONFIGURED (60_exceptions.md R121, R122,
R135; 70_reset_and_hazards.md R139). -/

namespace Sys2Proof.Machine

/-! ### An error, at `exec` and at the step -/

theorem exec_init_of_bad_counts {key nonce : List Word} (h : ¬(key.length = 8 ∧ nonce.length = 3)) (c : Word)
    (s : State) :
    exec (.init key c nonce) s = .next { s with rsp := s.rsp ++ [Spec.status 2 s.conf s.engine] } := by
  rw [exec, execInit_of_bad_counts h, State.raiseError_eq_status]
  rfl

theorem State.emitKeystream_eq_of_unconfigured {s : State} (hc : s.conf = false) (bs : List Byte) (n : Word) :
    s.emitKeystream bs n = { s with rsp := s.rsp ++ [Spec.status 3 false s.engine] } := by
  rw [emitKeystream_of_unconfigured hc, raiseError_eq_status, hc]
  rfl

/-- The step of a command that raises an error: its CMD words are consumed, and `ErrorsWriteNoState` says the rest. -/
theorem step_of_error {s : State} {i : Instr} {rest : List Word} (hready : s.Ready i rest)
    (herr : Spec.errorOf i s.conf ≠ 0) :
    step s = .next { s with
      cmd := rest, din := s.din.drop i.messageLength
      rsp := s.rsp ++ [Spec.status (Spec.errorOf i s.conf) s.conf s.engine] } := by
  obtain ⟨hp, hdecode, hmessage⟩ := hready
  rw [step_of_command hp hdecode]
  exact errorsWriteNoState i (s.cmdConsumed rest) hp hmessage herr

/-! ### The statements -/

/-- Settles O9: in both cases the decoder answers that the command is not complete. -/
theorem missingWordsLeaveTheCoreWaiting : Obligations.MissingWordsLeaveTheCoreWaiting := by
  intro s hp hmissing
  have hfetch : s.fetch = .incomplete := by
    obtain hempty | ⟨w, ws, hcmd, hshort⟩ := hmissing
    · rw [State.fetch, hempty, decode]
    · rw [State.fetch, hcmd, decode_incomplete_iff, commandLength_eq_cmdLength]
      exact hshort
  exact step_of_incomplete hp hfetch

/-- Settles O13: INIT's own words decode to it whatever its counts, and a wrong count is reported. -/
theorem initOfWrongLengthWritesNoState : Obligations.InitOfWrongLengthWritesNoState := by
  intro s key c nonce hwrong
  have hcounts : ¬(key.length = 8 ∧ nonce.length = 3) := by omega
  refine ⟨exec_init_of_bad_counts hcounts c s, fun rest hk hn hp hcmd => ?_⟩
  have hwf : (Instr.init key c nonce).WellFormed := (Instr.wellFormed_init_iff key c nonce).mpr ⟨hk, hn⟩
  have hfetch : s.fetch = .command (.init key c nonce) rest := by rw [State.fetch, hcmd, decode_encode_append hwf]
  rw [step_of_command hp hfetch]
  exact exec_init_of_bad_counts hcounts c (s.cmdConsumed rest)

/-- Settles O39: without a configuration each of the three has the error NOT_CONFIGURED, and XFORM raises it after its
message. -/
theorem unconfiguredCoreEmitsNoKeystream : Obligations.UnconfiguredCoreEmitsNoKeystream := by
  intro s hc
  refine ⟨congrArg Host.Outcome.next (State.emitKeystream_eq_of_unconfigured hc _ _),
    congrArg Host.Outcome.next (State.emitKeystream_eq_of_unconfigured hc _ _), fun len hlen => ?_,
    fun i rest hi hready => ?_⟩
  · have henough : len.toNat ≤ 0 + s.din.length := by rwa [Nat.zero_add]
    exact congrArg Host.Outcome.next (State.xformFrom_eq_of_unconfigured hc henough)
  · have hcode : Spec.errorOf i s.conf = 3 := by
      rw [hc]
      obtain rfl | rfl | ⟨len, rfl⟩ := hi
      · rfl
      · rfl
      · rfl
    rw [step_of_error hready (by rw [hcode]; decide), hcode, hc]

end Sys2Proof.Machine
end
